-- ==== Sys2Proof/Word.lean ====
section
/-! DEFINITION. The word types of the harness (spec/00_scope.md R9, R10): all values are unsigned bit vectors. -/

namespace Sys2Proof

/-- A register value, a bus data word, a bus byte address: 32 bits (R5 `W`, R9, R50). -/
abbrev Word := BitVec 32

/-- A character on the line: 8 bits under `FRAME` (R151, R165). -/
abbrev Byte := BitVec 8

/-- A character in a USART buffer: bits 8:0 of `USART_DATA` (R25, R83). -/
abbrev Char9 := BitVec 9

/-- A pin index, a pin configuration field, or the micro-program counter: 4 bits (R34, R78, R85). -/
abbrev Nibble := BitVec 4

/-- The bits of a driver-operation word: 35 (R88). -/
abbrev OpBits := BitVec 35

end Sys2Proof
end

