-- ==== Sys2Proof/Config.lean ====
section
/-! DEFINITION. The implementation parameters of spec/00_scope.md R5 and the free values of the model.
The open parameters are a structure that State carries (assumption log 1); the parameters the spec fixes are constants;
every value the spec leaves free is an opaque constant, so no proof can rest on what it is. -/

namespace Sys2Proof

/-- The parameters R5 marks open, and the default `CLOCK_FREQ` (decision D4: "A model may take `CLOCK_FREQ` as an
argument"). Which choices are legal: `Params.legal` (R5, R6). -/
structure Params where
  /-- `RCU_BASE`. -/
  rcuBase : Word
  /-- `GPIO_BASE`. -/
  gpioBase : Word
  /-- `USART_BASE`. -/
  usartBase : Word
  /-- `TX_PIN`, 0 to 15. -/
  txPin : Nibble
  /-- `RX_PIN`, 0 to 15. -/
  rxPin : Nibble
  /-- `CLOCK_FREQ` in Hz. -/
  clockFreq : Nat
  /-- `GPIO_CTL0_RESET`. -/
  gpioCtl0Reset : Word
  /-- `GPIO_CTL1_RESET`. -/
  gpioCtl1Reset : Word
  /-- `USART_BAUD_RESET`. -/
  usartBaudReset : Word
  deriving DecidableEq, Repr

/-- The frame format of the serial link (R151): a constant of the PHY, no register field. -/
structure FrameFormat where
  startBits : Nat
  dataBits : Nat
  parityBits : Nat
  stopBits : Nat
  lsbFirst : Bool
  deriving DecidableEq, Repr

namespace Config

/-- `BAUD_RATE` (R5). -/
def baudRate : Nat := 115200

/-- `CLK_MASK`, the word MainLoop writes to the clock-enable register (R5, R80). -/
def clkMask : Word := 0b0100000000000101#32

/-- `USART_EN_WORD`, the word `init` writes to USART control register 0 (R5, R81, R144). -/
def usartEnWord : Word := 0b0010000000001100#32

/-- `TX_CONFIG` = `(0b10 << 2) | 0b11` (R5, R79). -/
def txConfig : Nibble := 0xB#4

/-- `RX_CONFIG` = `(0b01 << 2) | 0b00` (R5, R79). -/
def rxConfig : Nibble := 0x4#4

/-- `FRAME`: one start bit, eight data bits least significant first, no parity, one stop bit (R5, R151). -/
def frame : FrameFormat :=
  { startBits := 1, dataBits := 8, parityBits := 0, stopBits := 1, lsbFirst := true }

/-- The parameters `State.reset` carries: binding E of spec/95_test_vectors.md, the GD32VF103 numbers.
PRESUMED, unsafe (assumption log 2): the spec leaves them open. Statements quantify over all parameters. -/
def binding : Params :=
  { rcuBase := 0x40021000#32, gpioBase := 0x40010800#32, usartBase := 0x40013800#32
    txPin := 9#4, rxPin := 10#4, clockFreq := 8000000
    gpioCtl0Reset := 0x44444444#32, gpioCtl1Reset := 0x44444444#32, usartBaudReset := 0x00000000#32 }

/-- `draw(32)` of a `USART_STAT` read (R24, R107): the n-th free value. DESIGN CHOICE of form, safe (log 13). -/
opaque statDraw : Nat → Word

/-- `draw(9)` of a `USART_DATA` read that finds no character (R109): the n-th free value (log 13). -/
opaque dataDraw : Nat → Char9

/-- Whether a character `PHY_TX` took reaches the line where R139 does not guarantee it (log 15). -/
opaque txLineDraw : Nat → Bool

/-- What `PHY_RX` offers, if anything, for a character on the line where R140 does not guarantee the connection (log 15). -/
opaque rxLineDraw : Nat → Option (Byte × Bool × Bool)

end Config

end Sys2Proof
end

