-- ==== Sys2Proof/Syntax.lean ====
section
/-! DEFINITION. The syntax of the harness: the seven registers, the thirty operations of spec/opcode_table.json
(spec/30_encoding.md R90), and the items a decoder is given (R75): bus transactions, driver-operation words and the
micro-program counter. -/

namespace Sys2Proof

/-- The direction of a bus transaction (R76 `dir`). -/
inductive Dir where
  | read
  | write
  deriving DecidableEq, Repr

/-- The three blocks a register belongs to (R76 `blk`). -/
inductive Block where
  | rcu
  | gpio
  | usart
  deriving DecidableEq, Repr

/-- The seven mapped registers (spec/20_memory.md R51). -/
inductive Reg where
  | rcuClken
  | gpioCtl0
  | gpioCtl1
  | usartStat
  | usartData
  | usartBaud
  | usartCtl0
  deriving DecidableEq, Repr

/-- The thirty encoded operations (R90). One constructor per row of spec/opcode_table.json, in the table's order. -/
inductive Instr where
  /-- `RD.RCU_CLKEN` (R101). -/
  | rdRcuClken
  /-- `WR.RCU_CLKEN` (R102). -/
  | wrRcuClken (v : Word)
  /-- `RD.GPIO_CTL0` (R103). -/
  | rdGpioCtl0
  /-- `WR.GPIO_CTL0` (R104). -/
  | wrGpioCtl0 (v : Word)
  /-- `RD.GPIO_CTL1` (R105). -/
  | rdGpioCtl1
  /-- `WR.GPIO_CTL1` (R106). -/
  | wrGpioCtl1 (v : Word)
  /-- `RD.USART_STAT` (R107). -/
  | rdUsartStat
  /-- `WR.USART_STAT` (R108). -/
  | wrUsartStat (v : Word)
  /-- `RD.USART_DATA` (R109). -/
  | rdUsartData
  /-- `WR.USART_DATA` (R110). -/
  | wrUsartData (v : Word)
  /-- `RD.USART_BAUD` (R111). -/
  | rdUsartBaud
  /-- `WR.USART_BAUD` (R112). -/
  | wrUsartBaud (v : Word)
  /-- `RD.USART_CTL0` (R113). -/
  | rdUsartCtl0
  /-- `WR.USART_CTL0` (R114). -/
  | wrUsartCtl0 (v : Word)
  /-- `ENABLE` (R120); `base` is bound to `RCU_BASE` (R88). -/
  | enable (mask : Word)
  /-- `CONFIGURE` (R128); `portBase` is bound to `GPIO_BASE` (R88). -/
  | configure (pinIndex config : Nibble)
  /-- `INIT` (R142); `base` is bound to `USART_BASE` (R88). -/
  | init (divisor : Word)
  /-- `RECEIVE` (R154). -/
  | receive
  /-- `TRANSMIT` (R158). -/
  | transmit (value : Word)
  /-- `CLK_EN`, `upc = 0` (R178). -/
  | clkEn
  /-- `TXP_RD`, `upc = 1` (R179). -/
  | txpRd
  /-- `TXP_WR`, `upc = 2` (R180). -/
  | txpWr
  /-- `RXP_RD`, `upc = 3` (R181). -/
  | rxpRd
  /-- `RXP_WR`, `upc = 4` (R182). -/
  | rxpWr
  /-- `BAUD_WR`, `upc = 5` (R183). -/
  | baudWr
  /-- `CTL_WR`, `upc = 6` (R184). -/
  | ctlWr
  /-- `RX_POLL`, `upc = 7` (R185). -/
  | rxPoll
  /-- `RX_READ`, `upc = 8` (R186). -/
  | rxRead
  /-- `TX_POLL`, `upc = 9` (R187). -/
  | txPoll
  /-- `TX_WRITE`, `upc = 10` (R188). -/
  | txWrite
  deriving DecidableEq, Repr

/-- A transaction as it arrives on the bus (R76): byte address, data word (read by a write only), and the access width
in bytes, so that a transaction of another width can be refused (R54). -/
structure BusItem where
  dir : Dir
  width : Nat
  addr : Word
  wdata : Word
  deriving DecidableEq, Repr

/-- An item presented to the controller in place of its micro-program: on the bus (R75, R76), or at the
driver-operation interface (R88, R194). -/
inductive PortItem where
  /-- A bus transaction by byte address. -/
  | bus (t : BusItem)
  /-- A bus transaction after address decoding: its 8-bit key (R76), as spec/opcode_table.json keys it. -/
  | key (k : BitVec 8) (wdata : Word)
  /-- A driver-operation word (R88). -/
  | op (w : OpBits)
  deriving DecidableEq, Repr

/-- What a decoder is given; the three formats are told apart by the port they arrive on (R75). -/
inductive CodeWord where
  | port (item : PortItem)
  /-- The value of `upc` (R89). -/
  | uop (upc : Nibble)
  deriving DecidableEq, Repr

/-- Why a code word is no operation. The first five are refusals (R91, R207); the last is the fault
`IllegalState` (R189). -/
inductive DecodeError where
  /-- A bus transaction of a width other than 32 bits (R54). -/
  | width
  /-- A byte address that is no multiple of 4 (R55). -/
  | misaligned
  /-- An address, or a key, of no mapped register (R57, R76). -/
  | unmapped
  /-- An OP selector 101, 110 or 111 (R88, R91). -/
  | reservedSelector
  /-- A non-zero reserved operand bit of CONFIGURE or RECEIVE (R91). -/
  | reservedOperandBits
  /-- A `upc` value 11 to 15 (R189). -/
  | illegalUpc (upc : Nibble)
  deriving DecidableEq, Repr

end Sys2Proof
end

