-- ==== Sys2Proof/Decode.lean ====
section
/-! DEFINITION. The address map (spec/20_memory.md R51), the decoder and the encoder (spec/30_encoding.md R76, R88, R89,
R91). Decoding is total and rejects by name; it gives no register value and checks no gate: those checks come after it,
in the order of spec/60_exceptions.md R203. -/

namespace Sys2Proof

/-- `floor(CLOCK_FREQ / BAUD_RATE)` on natural numbers (R87, R145). -/
def divisorOf (clockFreq baudRate : Nat) : Nat := clockFreq / baudRate

/-- A byte address that is a multiple of 4 (R55). -/
def aligned (a : Word) : Bool := a.toNat % 4 == 0

/-- The legal written values of `USART_BAUD`: 1 to `0xFFFF` (R26, R112). -/
def divisorLegal (v : Word) : Bool := decide (1 ≤ v.toNat) && decide (v.toNat ≤ 0xFFFF)

/-- The legal written values of `USART_CTL0`: no 1 outside bits 2, 3 and 13 (R28, R114). -/
def ctlLegal (v : Word) : Bool := v &&& 0xFFFFDFF3#32 == 0#32

/-- The block of a register (R51). -/
def Reg.block : Reg → Block
  | .rcuClken => .rcu
  | .gpioCtl0 | .gpioCtl1 => .gpio
  | .usartStat | .usartData | .usartBaud | .usartCtl0 => .usart

/-- The offset of a register from its block's base (R51), `off[4:0]` of its key (R76). -/
def Reg.offset : Reg → BitVec 5
  | .rcuClken => 0x18#5
  | .gpioCtl0 => 0x00#5
  | .gpioCtl1 => 0x04#5
  | .usartStat => 0x00#5
  | .usartData => 0x04#5
  | .usartBaud => 0x08#5
  | .usartCtl0 => 0x0C#5

/-- The seven registers, in the order of the address map (R51). -/
def Reg.all : List Reg :=
  [.rcuClken, .gpioCtl0, .gpioCtl1, .usartStat, .usartData, .usartBaud, .usartCtl0]

/-- The base address of a block (R5). -/
def Params.base (p : Params) : Block → Word
  | .rcu => p.rcuBase
  | .gpio => p.gpioBase
  | .usart => p.usartBase

/-- The byte address of a register (R51). The sum is taken modulo 2^32: DESIGN CHOICE (log 18). -/
def addrOf (p : Params) (r : Reg) : Word :=
  p.base r.block + r.offset.setWidth 32

/-- The register at a byte address, if one is mapped there (R51, R57). -/
def regAt (p : Params) (a : Word) : Option Reg :=
  Reg.all.find? fun r => addrOf p r == a

/-- The operation that one transaction on one register is (R90). -/
def busInstr : Dir → Reg → Word → Instr
  | .read, .rcuClken, _ => .rdRcuClken
  | .write, .rcuClken, v => .wrRcuClken v
  | .read, .gpioCtl0, _ => .rdGpioCtl0
  | .write, .gpioCtl0, v => .wrGpioCtl0 v
  | .read, .gpioCtl1, _ => .rdGpioCtl1
  | .write, .gpioCtl1, v => .wrGpioCtl1 v
  | .read, .usartStat, _ => .rdUsartStat
  | .write, .usartStat, v => .wrUsartStat v
  | .read, .usartData, _ => .rdUsartData
  | .write, .usartData, v => .wrUsartData v
  | .read, .usartBaud, _ => .rdUsartBaud
  | .write, .usartBaud, v => .wrUsartBaud v
  | .read, .usartCtl0, _ => .rdUsartCtl0
  | .write, .usartCtl0, v => .wrUsartCtl0 v

/-- `dir` as a bit: 0 read, 1 write (R76). -/
def Dir.bit : Dir → BitVec 1
  | .read => 0#1
  | .write => 1#1

/-- `blk`: 00 RCU, 01 GPIO, 10 USART (R76). -/
def Block.bits : Block → BitVec 2
  | .rcu => 0b00#2
  | .gpio => 0b01#2
  | .usart => 0b10#2

/-- `key = (dir << 7) | (blk << 5) | off[4:0]` (R76). -/
def keyOf (d : Dir) (r : Reg) : BitVec 8 :=
  d.bit ++ r.block.bits ++ r.offset

/-- The direction and the register of a key; fourteen keys have one (R76). -/
def keyTarget (k : BitVec 8) : Option (Dir × Reg) :=
  match Reg.all.find? fun r => keyOf .read r == k with
  | some r => some (.read, r)
  | none => (Reg.all.find? fun r => keyOf .write r == k).map fun r => (.write, r)

/-- Decode a keyed bus transaction (R76, R91). -/
def decodeKey (k : BitVec 8) (wdata : Word) : Except DecodeError Instr :=
  match keyTarget k with
  | some (d, r) => .ok (busInstr d r wdata)
  | none => .error .unmapped

/-- Decode a bus transaction by address: width (R54), then the first two common checks, alignment (R55) and mapping
(R57), in the order of R52 and R53. That the width is checked first: DESIGN CHOICE (log 19). -/
def decodeBus (p : Params) (t : BusItem) : Except DecodeError Instr :=
  if t.width ≠ 4 then .error .width
  else if ¬ aligned t.addr then .error .misaligned
  else
    match regAt p t.addr with
    | some r => decodeKey (keyOf t.dir r) t.wdata
    | none => .error .unmapped

/-- `OPW[34:32]`, the selector (R88). -/
def opSelector (w : OpBits) : BitVec 3 := w.extractLsb' 32 3

/-- `OPW[31:0]`, the operand (R88). -/
def opOperand (w : OpBits) : Word := w.extractLsb' 0 32

/-- Decode a driver-operation word (R88, R91). -/
def decodeOp (w : OpBits) : Except DecodeError Instr :=
  match (opSelector w).toNat with
  | 0 => .ok (.enable (opOperand w))
  | 1 =>
    if w.extractLsb' 8 24 = 0#24 then .ok (.configure (w.extractLsb' 4 4) (w.extractLsb' 0 4))
    else .error .reservedOperandBits
  | 2 => .ok (.init (opOperand w))
  | 3 => if opOperand w = 0#32 then .ok .receive else .error .reservedOperandBits
  | 4 => .ok (.transmit (opOperand w))
  | _ => .error .reservedSelector

/-- Decode a micro-program counter value (R89, R189). -/
def decodeUop (u : Nibble) : Except DecodeError Instr :=
  match u.toNat with
  | 0 => .ok .clkEn
  | 1 => .ok .txpRd
  | 2 => .ok .txpWr
  | 3 => .ok .rxpRd
  | 4 => .ok .rxpWr
  | 5 => .ok .baudWr
  | 6 => .ok .ctlWr
  | 7 => .ok .rxPoll
  | 8 => .ok .rxRead
  | 9 => .ok .txPoll
  | 10 => .ok .txWrite
  | _ => .error (.illegalUpc u)

/-- Decode a port item. -/
def decodeItem (p : Params) : PortItem → Except DecodeError Instr
  | .bus t => decodeBus p t
  | .key k v => decodeKey k v
  | .op w => decodeOp w

/-- The decoder: total, rejecting by name (R75). -/
def decode (p : Params) : CodeWord → Except DecodeError Instr
  | .port it => decodeItem p it
  | .uop u => decodeUop u

/-- A keyed bus item; a read carries no data word, written as zero. -/
def encodeBus (d : Dir) (r : Reg) (v : Word) : CodeWord := .port (.key (keyOf d r) v)

/-- A driver-operation word from its selector and its operand (R88). -/
def encodeOp (sel : BitVec 3) (operand : Word) : CodeWord := .port (.op (sel ++ operand))

/-- The encoder (R76, R88, R89). -/
def encode : Instr → CodeWord
  | .rdRcuClken => encodeBus .read .rcuClken 0#32
  | .wrRcuClken v => encodeBus .write .rcuClken v
  | .rdGpioCtl0 => encodeBus .read .gpioCtl0 0#32
  | .wrGpioCtl0 v => encodeBus .write .gpioCtl0 v
  | .rdGpioCtl1 => encodeBus .read .gpioCtl1 0#32
  | .wrGpioCtl1 v => encodeBus .write .gpioCtl1 v
  | .rdUsartStat => encodeBus .read .usartStat 0#32
  | .wrUsartStat v => encodeBus .write .usartStat v
  | .rdUsartData => encodeBus .read .usartData 0#32
  | .wrUsartData v => encodeBus .write .usartData v
  | .rdUsartBaud => encodeBus .read .usartBaud 0#32
  | .wrUsartBaud v => encodeBus .write .usartBaud v
  | .rdUsartCtl0 => encodeBus .read .usartCtl0 0#32
  | .wrUsartCtl0 v => encodeBus .write .usartCtl0 v
  | .enable mask => encodeOp 0b000#3 mask
  | .configure pin cfg => encodeOp 0b001#3 (0#24 ++ pin ++ cfg)
  | .init d => encodeOp 0b010#3 d
  | .receive => encodeOp 0b011#3 0#32
  | .transmit v => encodeOp 0b100#3 v
  | .clkEn => .uop 0b0000#4
  | .txpRd => .uop 0b0001#4
  | .txpWr => .uop 0b0010#4
  | .rxpRd => .uop 0b0011#4
  | .rxpWr => .uop 0b0100#4
  | .baudWr => .uop 0b0101#4
  | .ctlWr => .uop 0b0110#4
  | .rxPoll => .uop 0b0111#4
  | .rxRead => .uop 0b1000#4
  | .txPoll => .uop 0b1001#4
  | .txWrite => .uop 0b1010#4

/-- How a word of spec/opcode_table.json stands at the machine's ports (log 19): up to 8 bits are a `upc` value
where the value is below 16 (no BUS key is) and a BUS key with data word zero elsewhere; more bits are an OP word, whose 35 bits
are the low ones of the table's whole bytes. -/
def tableCodeWord (nbits w : Nat) : CodeWord :=
  if nbits ≤ 8 then
    if w < 16 then .uop (BitVec.ofNat 4 w) else .port (.key (BitVec.ofNat 8 w) 0#32)
  else .port (.op (BitVec.ofNat 35 w))

/-- The instruction the decoder reads from a table word. A table word is a BUS key, an OP word or a `upc` value; none of
the three needs the bases, so the parameters given here do not matter. -/
def decodeTableWord (nbits w : Nat) : Option Instr :=
  match decode Config.binding (tableCodeWord nbits w) with
  | .ok i => some i
  | .error _ => none

end Sys2Proof
end

