-- ==== Sys2Proof/WellFormed.lean ====
section
/-! DEFINITION. Which operands and which parameters the spec admits (spec/30_encoding.md R91, spec/00_scope.md R5, R6).
An operation that is not well formed still has a meaning: its refusal, after the gate check (R53, R203). -/

namespace Sys2Proof

/-- Whether an operation's operand is one the spec gives an effect (R91). -/
def Instr.wellFormed : Instr → Bool
  | .wrUsartStat _ => false
  | .wrUsartBaud v => divisorLegal v
  | .wrUsartCtl0 v => ctlLegal v
  | .init d => divisorLegal d
  | .rdRcuClken | .wrRcuClken _ | .rdGpioCtl0 | .wrGpioCtl0 _ | .rdGpioCtl1 | .wrGpioCtl1 _ | .rdUsartStat
  | .rdUsartData | .wrUsartData _ | .rdUsartBaud | .rdUsartCtl0 | .enable _ | .configure _ _ | .receive
  | .transmit _ | .clkEn | .txpRd | .txpWr | .rxpRd | .rxpWr | .baudWr | .ctlWr | .rxPoll | .rxRead | .txPoll
  | .txWrite => true

/-- The parameter choices the model launches with: word-aligned bases, the seven addresses pairwise distinct (R6),
`TX_PIN != RX_PIN` (R5), `DIVISOR` in 1..`0xFFFF` (R183, decision D4). Any other is refused (R6, R207). -/
def Params.legal (p : Params) : Bool :=
  aligned p.rcuBase && aligned p.gpioBase && aligned p.usartBase
    && decide (Reg.all.map (addrOf p)).Nodup
    && p.txPin != p.rxPin
    && decide (1 ≤ divisorOf p.clockFreq Config.baudRate)
    && decide (divisorOf p.clockFreq Config.baudRate ≤ 0xFFFF)

end Sys2Proof
end

