-- ==== Sys2Proof/Machine/State.lean ====
section
/-! DEFINITION. The state of the harness (spec/10_state.md R15) as plain data, its reset (R37, spec/70_reset_and_hazards.md
R220) and the closed lists of reasons a step can stop. -/

namespace Sys2Proof.Machine

/-- The error kinds of spec/60_exceptions.md R201. -/
inductive ErrorKind where
  /-- Code 1: a bus access to a gated-off domain (R197). -/
  | clockNotReady
  /-- Code 2: a character arrived while `rx_full = 1` (R198). -/
  | receiveOverrun
  /-- Code 3: a character arrived without a valid stop bit (R199). -/
  | framingError
  /-- Code 4: a character arrived with noise (R200). -/
  | noiseError
  /-- Code 5: a `SEQ` step with `upc` in 11..15 (R201). -/
  | illegalState
  deriving DecidableEq, Repr

/-- A fault record `(kind, upc, addr)` (R35, R204). `upc` is empty for a driver operation presented alone (vector P5,
log 12); `addr` is empty for `IllegalState` (R201). -/
structure FaultRecord where
  kind : ErrorKind
  upc : Option Nibble
  addr : Option Word
  deriving DecidableEq, Repr

/-- Why a step stops with a fault. -/
inductive Fault where
  /-- Raised by every operation, and by a step whose schedule is empty, where a fault is recorded in the state: "from then on
  `SEQ` has no step" (R204). Safe: the machine stops where the spec gives `SEQ` no step. -/
  | halted (r : FaultRecord)
  deriving DecidableEq, Repr

/-- Why the model gives a step no meaning (R207). Each is safe: the model stops and nothing can be proved of what follows. -/
inductive Refusal where
  /-- Raised by an arm of `exec` whose instruction has no meaning yet; no arm is. Safe. -/
  | notModelled (mnemonic : String)
  /-- Recorded by the step where the parameters violate R5 or R6. Safe. -/
  | illegalParameters
  /-- Raised by decoding a transaction of a width other than 32 bits (R54). Safe. -/
  | width
  /-- Raised by decoding a transaction whose address is no multiple of 4 (R55). Safe. -/
  | misaligned
  /-- Raised by decoding a transaction to no mapped register (R57). Safe. -/
  | unmapped
  /-- Raised by a write of `USART_STAT` (R108). Safe. -/
  | statusReadOnly
  /-- Raised by a write of `USART_DATA` while `tx_full = 1` (R110). Safe. -/
  | transmitBufferFull
  /-- Raised by a write of 0 or of more than `0xFFFF` to `USART_BAUD` (R112). Safe. -/
  | divisorOutOfRange
  /-- Raised by a write to `USART_CTL0` with a 1 outside bits 2, 3, 13 (R114). Safe. -/
  | unknownControlBits
  /-- Raised by decoding an OP word with selector 101, 110 or 111 (R91). Safe. -/
  | reservedSelector
  /-- Raised by decoding an OP word with a non-zero reserved operand bit (R91). Safe. -/
  | reservedOperandBits
  deriving DecidableEq, Repr

/-- The four sticky error bits (R31). -/
structure ErrBits where
  overrun : Bool
  framing : Bool
  noise : Bool
  clock : Bool
  deriving DecidableEq, Repr

/-- An entry of `rx_hist` (R32): a `PHY_RX` step's record, or a reset marker. -/
inductive RxEvent where
  | arrived (c : Byte) (ferr nerr accepted : Bool)
  | reset
  deriving DecidableEq, Repr

/-- An entry of `tx_log` (R32), or of the model's line history: a character, or a reset marker. -/
inductive TxEvent where
  | taken (c : Byte)
  | reset
  deriving DecidableEq, Repr

/-- An entry of `bus_log` (R32): `R addr -> v`, `W addr <- v`, or a reset marker. -/
inductive BusEvent where
  | read (addr v : Word)
  | write (addr v : Word)
  | reset
  deriving DecidableEq, Repr

/-- Where a presented driver operation stands between its transactions (R162 "waiting, ready"; R60; log 10). The
operands are those of the operation, so a second transaction belongs to the same operation as the first (R131). -/
inductive OpPhase where
  /-- No driver operation is under way. -/
  | idle
  /-- CONFIGURE has read; the write back is due. -/
  | configureWrite (pinIndex config : Nibble)
  /-- INIT has written the baud register; the control write is due. -/
  | initControl (divisor : Word)
  /-- RECEIVE is in its poll loop. -/
  | receiveWaiting
  /-- RECEIVE has seen bit 5; the data read is due. -/
  | receiveReady
  /-- TRANSMIT is in its poll loop. -/
  | transmitWaiting (value : Word)
  /-- TRANSMIT has seen bit 7; the data write is due. -/
  | transmitReady (value : Word)
  deriving DecidableEq, Repr

/-- One agent's turn (R8). The schedule and `RX_SRC` are inputs (R36); the model holds them as plain data (log 4). -/
inductive Turn where
  /-- `SEQ` takes its next step. -/
  | seq
  /-- `PHY_RX` offers the character `c` of `RX_SRC` (R165, R166). -/
  | rxArrive (c : Byte) (ferr nerr : Bool)
  /-- The peer sends a character on the line to `RX_PIN`; R140 says when `PHY_RX` must offer it (log 15). -/
  | lineRx (c : Byte) (ferr nerr : Bool)
  /-- `PHY_TX` takes the pending character (R168). -/
  | txTake
  /-- The host resets the harness (R220). -/
  | reset
  deriving DecidableEq, Repr

/-- The state (R15). The last six fields are the model's own, not the spec's (logs 1, 4, 9, 10, 13, 15). -/
structure State where
  /-- `RCU_CLKEN` (R16). -/
  rcuClken : Word
  /-- `GPIO_CTL0` (R18). -/
  gpioCtl0 : Word
  /-- `GPIO_CTL1` (R19). -/
  gpioCtl1 : Word
  /-- `USART_BAUD` (R26). -/
  usartBaud : Word
  /-- `USART_CTL0` (R27). -/
  usartCtl0 : Word
  /-- `rx_buf` (R29). -/
  rxBuf : Char9
  /-- `rx_full` (R29), read as RBNE (R22). -/
  rxFull : Bool
  /-- `tx_buf` (R30). -/
  txBuf : Char9
  /-- `tx_full` (R30), read inverted as TBE (R23). -/
  txFull : Bool
  /-- `err` (R31). -/
  err : ErrBits
  /-- `upc` (R34). -/
  upc : Nibble
  /-- `tmp` (R33). -/
  tmp : Word
  /-- `ch` (R33). -/
  ch : Word
  /-- `fault` (R35, R204). -/
  fault : Option FaultRecord
  /-- `refused` (R35, R207). -/
  refused : Option Refusal
  /-- `rx_hist` (R32). -/
  rxHist : List RxEvent
  /-- `tx_log` (R32). -/
  txLog : List TxEvent
  /-- `bus_log` (R32). -/
  busLog : List BusEvent
  /-- The parameters (R5): constant data that no step changes (log 1). -/
  params : Params
  /-- The characters that reached the line at `TX_PIN` (R139, log 15). -/
  lineLog : List TxEvent
  /-- The items presented to the controller in place of its micro-program (R75, R194, log 9). -/
  port : List PortItem
  /-- Where the driver operation at the head of `port` stands (log 10). -/
  phase : OpPhase
  /-- The turns to come (R8, R63, log 4). -/
  sched : List Turn
  /-- How many free values have been drawn (log 13). -/
  draws : Nat
  deriving DecidableEq, Repr

/-- The state right after reset under the parameters `p` (R37). `tmp`, `ch`, `rx_buf`, `tx_buf` have "no value" in the
spec and are 0 here: DESIGN CHOICE, unsafe (log 3). The histories are empty: DESIGN CHOICE (log 17). -/
def State.resetWith (p : Params) : State :=
  { rcuClken := 0#32, gpioCtl0 := p.gpioCtl0Reset, gpioCtl1 := p.gpioCtl1Reset
    usartBaud := p.usartBaudReset, usartCtl0 := 0#32
    rxBuf := 0#9, rxFull := false, txBuf := 0#9, txFull := false
    err := { overrun := false, framing := false, noise := false, clock := false }
    upc := 0#4, tmp := 0#32, ch := 0#32, fault := none, refused := none
    rxHist := [], txLog := [], busLog := []
    params := p, lineLog := [], port := [], phase := .idle, sched := [], draws := 0 }

/-- The machine right after reset, under the named parameters `Config.binding` (log 2). -/
def State.reset : State := State.resetWith Config.binding

/-- What one step or one operation answers. -/
abbrev Result := Host.Outcome State Fault Refusal

end Sys2Proof.Machine
end

