-- ==== Sys2Proof/Machine/Flags.lean ====
section
/-! DEFINITION. The two flags (spec/10_state.md R38), the status word a read returns (spec/40_bus_register_access.md R107)
and the bit tests of the poll loops (spec/44_serial_channel.md R155, R159). -/

namespace Sys2Proof.Machine

/-- RBNE, `USART_STAT` bit 5: `rx_full` (R22). -/
def rbne (s : State) : Bool := s.rxFull

/-- TBE, `USART_STAT` bit 7: `1 - tx_full` (R23). -/
def tbe (s : State) : Bool := !s.txFull

/-- A bit as a 32-bit word. -/
def bitWord (b : Bool) : Word := (BitVec.ofBool b).setWidth 32

/-- The word a `USART_STAT` read returns, with the draw `d` in every bit but 5 and 7 (R107). -/
def statWord (d : Word) (rbne tbe : Bool) : Word :=
  (d &&& 0xFFFFFF5F#32) ||| (bitWord rbne <<< 5) ||| (bitWord tbe <<< 7)

/-- The test of bit 5 with the mask `0x20` (R155, R82). -/
def rbneSeen (v : Word) : Bool := v &&& 0x20#32 != 0#32

/-- The test of bit 7 with the mask `0x80` (R159, R82). -/
def tbeSeen (v : Word) : Bool := v &&& 0x80#32 != 0#32

/-- `RCU_CLKEN.AFEN`, bit 0 (R17). -/
def afen (s : State) : Bool := s.rcuClken.getLsbD 0

/-- `RCU_CLKEN.PAEN`, bit 2 (R17). -/
def paen (s : State) : Bool := s.rcuClken.getLsbD 2

/-- `RCU_CLKEN.USART0EN`, bit 14 (R17). -/
def usart0en (s : State) : Bool := s.rcuClken.getLsbD 14

/-- `USART_CTL0.REN`, bit 2 (R28), the output `ren` (R41). -/
def ren (s : State) : Bool := s.usartCtl0.getLsbD 2

/-- `USART_CTL0.TEN`, bit 3 (R28), the output `ten` (R41). -/
def ten (s : State) : Bool := s.usartCtl0.getLsbD 3

/-- `USART_CTL0.UEN`, bit 13 (R28), the output `uen` (R41). -/
def uen (s : State) : Bool := s.usartCtl0.getLsbD 13

end Sys2Proof.Machine
end

