-- ==== Sys2Proof/Machine/Operands.lean ====
section
/-! DEFINITION. Operand assembly (spec/30_encoding.md R85, R86, R87, R95), the pin-mux (spec/42_pin_configure.md R137 to
R141), the derived outputs (spec/10_state.md R41), the baud-rate relation (spec/43_usart_init_baud.md R147) and the byte
view of the stored registers (spec/20_memory.md R56). -/

namespace Sys2Proof.Machine

/-- The GPIO control register of a pin: `GPIO_CTL0` below 8, else `GPIO_CTL1` (R85, R129). -/
def gpioReg (pin : Nibble) : Reg := if pin.toNat < 8 then .gpioCtl0 else .gpioCtl1

/-- `shift = (pinIndex mod 8) * 4` (R85, R130). -/
def pinShift (pin : Nibble) : Nat := pin.toNat % 8 * 4

/-- The field mask `0xF << shift` (R85). -/
def fieldMask (pin : Nibble) : Word := 0xF#32 <<< pinShift pin

/-- `new = (old & ~_32 (0xF << shift)) | (config << shift)` (R86, R131). -/
def insertField (old : Word) (pin config : Nibble) : Word :=
  (old &&& ~~~fieldMask pin) ||| (config.setWidth 32 <<< pinShift pin)

/-- `config = (ctl << 2) | mode` (R78, R133). -/
def pinConfig (mode ctl : BitVec 2) : Nibble := ctl ++ mode

/-- `pack(pinIndex, mode, ctl) = (sel, shift, fieldValue)` (R95). -/
def pack (pin : Nibble) (mode ctl : BitVec 2) : Nat × Nat × Word :=
  (if pin.toNat < 8 then 0 else 1, pinShift pin, (pinConfig mode ctl).setWidth 32 <<< pinShift pin)

/-- `field(word, k) = (word >> 4k) & 0xF` (R95). -/
def fieldOf (word : Word) (k : Nat) : Nibble := word.extractLsb' (4 * k) 4

/-- `mode = field & 0x3` (R95, R138). -/
def fieldMode (field : Nibble) : BitVec 2 := field.extractLsb' 0 2

/-- `ctl = field >> 2` (R95, R138). -/
def fieldCtl (field : Nibble) : BitVec 2 := field.extractLsb' 2 2

/-- The output `pin_cfg[p]` (R137): valid whether or not the GPIO domain is clocked. -/
def pinCfg (s : State) (pin : Nibble) : Nibble :=
  if pin.toNat < 8 then fieldOf s.gpioCtl0 pin.toNat else fieldOf s.gpioCtl1 (pin.toNat - 8)

/-- What a field makes of its pin (R138, R141). -/
inductive PinFunction where
  /-- `mode = 00`, `ctl = 01`: floating input. -/
  | inputFloating
  /-- `mode = 11`, `ctl = 10`: output at 50 MHz, alternate-function push-pull. -/
  | outputAlternatePushPull
  /-- Any other value: no meaning in the spec (R79, R141). -/
  | unspecified
  deriving DecidableEq, Repr

/-- The decode of a pin configuration field (R79, R138, R141). -/
def pinFunction (field : Nibble) : PinFunction :=
  if fieldMode field = 0b00#2 ∧ fieldCtl field = 0b01#2 then .inputFloating
  else if fieldMode field = 0b11#2 ∧ fieldCtl field = 0b10#2 then .outputAlternatePushPull
  else .unspecified

/-- `DIVISOR` as the word `BAUD_WR` writes (R5, R87). -/
def divisorWord (p : Params) : Word := BitVec.ofNat 32 (divisorOf p.clockFreq Config.baudRate)

/-- The output `baud_div` (R41). -/
def baudDiv (s : State) : Word := s.usartBaud

/-- The output `gpio_clk` (R41). -/
def gpioClk (s : State) : Bool := paen s

/-- The output `afio_clk` (R41). -/
def afioClk (s : State) : Bool := afen s

/-- The output `usart_clk` (R41). -/
def usartClk (s : State) : Bool := usart0en s

/-- `baud_ok := 1 <= USART_BAUD <= 0xFFFF` (R169). -/
def baudOk (s : State) : Bool := divisorLegal s.usartBaud

/-- `rx_enabled` (R169). -/
def rxEnabled (s : State) : Bool := usart0en s && uen s && ren s && baudOk s

/-- `tx_enabled` (R169). -/
def txEnabled (s : State) : Bool := usart0en s && uen s && ten s && baudOk s

/-- The conditions under which a character `PHY_TX` takes appears on the line at `TX_PIN` (R139). -/
def txConnected (s : State) : Bool := pinCfg s s.params.txPin == Config.txConfig && afen s && paen s

/-- The conditions under which a character on the line to `RX_PIN` is offered by `PHY_RX` (R140). -/
def rxConnected (s : State) : Bool := pinCfg s s.params.rxPin == Config.rxConfig && afen s && paen s

/-- A quotient of natural numbers, kept exact: `num / den`. -/
structure Ratio where
  num : Nat
  den : Nat
  deriving DecidableEq, Repr

/-- The bit period on the line in seconds, both directions, while the generator runs (R147, R148, R150). Information:
no step reads it (R234). -/
def bitPeriod (s : State) : Option Ratio :=
  if uen s && baudOk s then some ⟨s.usartBaud.toNat, s.params.clockFreq⟩ else none

/-- The bit rate in bit/s while the generator runs (R147). Information: no step reads it. -/
def bitRate (s : State) : Option Ratio :=
  if uen s && baudOk s then some ⟨s.params.clockFreq, s.usartBaud.toNat⟩ else none

/-- The bit periods of one character on the line (R151, R235). -/
def characterBits (f : FrameFormat) : Nat := f.startBits + f.dataBits + f.parityBits + f.stopBits

/-- A stored register's word; the two windows store nothing (R15, R69). -/
def storedWord (s : State) : Reg → Option Word
  | .rcuClken => some s.rcuClken
  | .gpioCtl0 => some s.gpioCtl0
  | .gpioCtl1 => some s.gpioCtl1
  | .usartBaud => some s.usartBaud
  | .usartCtl0 => some s.usartCtl0
  | .usartStat | .usartData => none

/-- The byte view of the bank: byte `addr + i` holds bits `[8i+7:8i]` of the word (R56). -/
def bankByte (s : State) (a : Word) : Option Byte :=
  match regAt s.params (a - BitVec.ofNat 32 (a.toNat % 4)) with
  | some r => (storedWord s r).map fun w => w.extractLsb' (8 * (a.toNat % 4)) 8
  | none => none

/-- The error kinds' codes (R201). -/
def ErrorKind.code : ErrorKind → Nat
  | .clockNotReady => 1
  | .receiveOverrun => 2
  | .framingError => 3
  | .noiseError => 4
  | .illegalState => 5

/-- Whether an error kind is a fault that halts `SEQ` or a recorded condition (R201). -/
def ErrorKind.halts : ErrorKind → Bool
  | .clockNotReady | .illegalState => true
  | .receiveOverrun | .framingError | .noiseError => false

end Sys2Proof.Machine
end

