-- ==== Sys2Proof/Machine/Ops.lean ====
section
/-! DEFINITION. The named updates of the state and the shared operations: raising a fault and refusing
(spec/60_exceptions.md R204, R207), the two bus primitives after address decoding (spec/20_memory.md R52, R53; the effects of
spec/40_bus_register_access.md), and the RESET step (spec/70_reset_and_hazards.md R220). There is no return from a fault
(R205). -/

namespace Sys2Proof.Machine

/-! ## Updates -/

/-- Append to `bus_log` (R32, R52, R53). -/
def State.logBus (s : State) (e : BusEvent) : State := { s with busLog := s.busLog ++ [e] }

/-- `x[tmp] <- v` (R11). -/
def State.setTmp (s : State) (v : Word) : State := { s with tmp := v }

/-- `x[ch] <- v` (R11). -/
def State.setCh (s : State) (v : Word) : State := { s with ch := v }

/-- `upc <- n` (R11). -/
def State.setUpc (s : State) (n : Nibble) : State := { s with upc := n }

/-- Where the presented driver operation stands from now on. -/
def State.setPhase (s : State) (ph : OpPhase) : State := { s with phase := ph }

/-- The items still presented. -/
def State.setPort (s : State) (l : List PortItem) : State := { s with port := l }

/-- The turns still to come. -/
def State.setSched (s : State) (l : List Turn) : State := { s with sched := l }

/-- One more free value has been drawn. -/
def State.drawn (s : State) : State := { s with draws := s.draws + 1 }

/-- `refused <- reason` (R207). -/
def State.markRefused (s : State) (r : Refusal) : State := { s with refused := some r }

/-- `rx_full <- 0` (R109). -/
def State.drainRx (s : State) : State := { s with rxFull := false }

/-- `rx_buf <- zext_9(c)`, `rx_full <- 1` (R165). -/
def State.fillRx (s : State) (c : Byte) : State := { s with rxBuf := c.setWidth 9, rxFull := true }

/-- `tx_buf <- v[8:0]`, `tx_full <- 1` (R110). -/
def State.fillTx (s : State) (v : Word) : State := { s with txBuf := v.extractLsb' 0 9, txFull := true }

/-- `tx_full <- 0` (R168). -/
def State.drainTx (s : State) : State := { s with txFull := false }

/-- Replace the error bits. -/
def State.setErr (s : State) (e : ErrBits) : State := { s with err := e }

/-- Append to `rx_hist` (R165, R166). -/
def State.logRx (s : State) (e : RxEvent) : State := { s with rxHist := s.rxHist ++ [e] }

/-- Append to `tx_log` (R168). -/
def State.logTx (s : State) (e : TxEvent) : State := { s with txLog := s.txLog ++ [e] }

/-- Append to the line history (R139, log 15). -/
def State.logLine (s : State) (e : TxEvent) : State := { s with lineLog := s.lineLog ++ [e] }

/-! ## Faults and refusals -/

/-- `raise <Fault>(info)`: `fault <- (kind, upc, info)` if `fault` was empty; nothing else, `upc` kept (R204). -/
def raise (kind : ErrorKind) (upc : Option Nibble) (addr : Option Word) (s : State) : State :=
  { s with fault := s.fault.or (some { kind := kind, upc := upc, addr := addr }) }

/-- `raise ClockNotReady(addr)`, with `err.clock <- 1` (R58, R197). -/
def raiseClockNotReady (upc : Option Nibble) (addr : Word) (s : State) : State :=
  (raise .clockNotReady upc (some addr) s).setErr { s.err with clock := true }

/-- The refusal a decoding error stands for; `illegalUpc` stands for none, it is a fault (R189, R207). -/
def DecodeError.refusal : DecodeError → Option Refusal
  | .width => some .width
  | .misaligned => some .misaligned
  | .unmapped => some .unmapped
  | .reservedSelector => some .reservedSelector
  | .reservedOperandBits => some .reservedOperandBits
  | .illegalUpc _ => none

/-- `SEQ` has a step while `fault` and `refused` are empty (R208). With a refusal recorded "the model says nothing
further about the run" (R207); with a fault recorded "`SEQ` has no step" (R204). -/
def whenRunning (s : State) (k : Result) : Result :=
  match s.refused, s.fault with
  | some r, _ => .refused r
  | none, some f => .fault (.halted f)
  | none, none => k

/-! ## The bus primitives after address decoding -/

/-- The gate check of R58: whether the register's clock domain is enabled; `RCU_CLKEN` is never gated (R16, R51). -/
def gateOpen (r : Reg) (s : State) : Bool :=
  match r.block with
  | .rcu => true
  | .gpio => paen s
  | .usart => usart0en s

/-- The value a read transaction returns (R101, R103, R105, R107, R109, R111, R113). -/
def readValue (r : Reg) (s : State) : Word :=
  match r with
  | .rcuClken => s.rcuClken
  | .gpioCtl0 => s.gpioCtl0
  | .gpioCtl1 => s.gpioCtl1
  | .usartStat => statWord (Config.statDraw s.draws) (rbne s) (tbe s)
  | .usartData => if s.rxFull then s.rxBuf.setWidth 32 else (Config.dataDraw s.draws).setWidth 32
  | .usartBaud => s.usartBaud
  | .usartCtl0 => s.usartCtl0

/-- The read side effect: a `USART_DATA` read clears `rx_full` (R59, R109); a draw is counted (log 13). -/
def readEffect (r : Reg) (s : State) : State :=
  match r with
  | .usartData => if s.rxFull then s.drainRx else s.drawn
  | .usartStat => s.drawn
  | .rcuClken | .gpioCtl0 | .gpioCtl1 | .usartBaud | .usartCtl0 => s

/-- Why a register's rule refuses a written value, if it does (R108, R110, R112, R114). -/
def writeRefusal (r : Reg) (v : Word) (s : State) : Option Refusal :=
  match r with
  | .usartStat => some .statusReadOnly
  | .usartData => if s.txFull then some .transmitBufferFull else none
  | .usartBaud => if divisorLegal v then none else some .divisorOutOfRange
  | .usartCtl0 => if ctlLegal v then none else some .unknownControlBits
  | .rcuClken | .gpioCtl0 | .gpioCtl1 => none

/-- The write effect (R102, R104, R106, R110, R112, R114): all 32 bits replaced, or the transmit buffer filled. -/
def writeEffect (r : Reg) (v : Word) (s : State) : State :=
  match r with
  | .rcuClken => { s with rcuClken := v }
  | .gpioCtl0 => { s with gpioCtl0 := v }
  | .gpioCtl1 => { s with gpioCtl1 := v }
  | .usartStat => s
  | .usartData => s.fillTx v
  | .usartBaud => { s with usartBaud := v }
  | .usartCtl0 => { s with usartCtl0 := v }

/-- `MemRead` after address decoding (R52 steps 3 and 4): the gate, then the value, its side effect and the `bus_log`
entry, handed to `k`. `upc` is what a fault record names (log 12). -/
def busRead (upc : Option Nibble) (r : Reg) (s : State) (k : Word → State → Result) : Result :=
  if gateOpen r s then
    k (readValue r s) ((readEffect r s).logBus (.read (addrOf s.params r) (readValue r s)))
  else .next (raiseClockNotReady upc (addrOf s.params r) s)

/-- `MemWrite` after address decoding (R53 steps 3 to 5): the gate, then the register's refusal, then the effect and the
`bus_log` entry, handed to `k`. -/
def busWrite (upc : Option Nibble) (r : Reg) (v : Word) (s : State) (k : State → Result) : Result :=
  if gateOpen r s then
    match writeRefusal r v s with
    | some e => .refused e
    | none => k ((writeEffect r v s).logBus (.write (addrOf s.params r) v))
  else .next (raiseClockNotReady upc (addrOf s.params r) s)

/-! ## RESET -/

/-- The RESET step (R220): every piece of state takes its reset value; a reset marker is appended to every history and
nothing in them is erased (R32). The parameters, the turns to come and the count of draws are no state of the harness
and stay; what stood at the port is gone, so the next `SEQ` step is micro-operation 0 (R223, log 9). -/
def resetStep (s : State) : State :=
  { State.resetWith s.params with
    rxHist := s.rxHist ++ [.reset], txLog := s.txLog ++ [.reset], busLog := s.busLog ++ [.reset]
    lineLog := s.lineLog ++ [.reset], sched := s.sched, draws := s.draws }

end Sys2Proof.Machine
end

