-- ==== Sys2Proof/Machine/Bus.lean ====
section
/-! DEFINITION. The fourteen bus transactions (spec/40_bus_register_access.md R100 to R114), each presented alone. The value
a read yields is its `bus_log` entry; no working register and not `upc` is written (log 23). -/

namespace Sys2Proof.Machine

/-- A read transaction presented alone (R100). -/
def readAlone (r : Reg) (s : State) : Result :=
  whenRunning s (busRead (some s.upc) r s fun _ t => .next t)

/-- A write transaction presented alone (R100). -/
def writeAlone (r : Reg) (v : Word) (s : State) : Result :=
  whenRunning s (busWrite (some s.upc) r v s fun t => .next t)

/-- `RD.RCU_CLKEN` (R101). -/
def execRdRcuClken (s : State) : Result := readAlone .rcuClken s

/-- `WR.RCU_CLKEN` (R102). -/
def execWrRcuClken (v : Word) (s : State) : Result := writeAlone .rcuClken v s

/-- `RD.GPIO_CTL0` (R103). -/
def execRdGpioCtl0 (s : State) : Result := readAlone .gpioCtl0 s

/-- `WR.GPIO_CTL0` (R104). -/
def execWrGpioCtl0 (v : Word) (s : State) : Result := writeAlone .gpioCtl0 v s

/-- `RD.GPIO_CTL1` (R105). -/
def execRdGpioCtl1 (s : State) : Result := readAlone .gpioCtl1 s

/-- `WR.GPIO_CTL1` (R106). -/
def execWrGpioCtl1 (v : Word) (s : State) : Result := writeAlone .gpioCtl1 v s

/-- `RD.USART_STAT` (R107). -/
def execRdUsartStat (s : State) : Result := readAlone .usartStat s

/-- `WR.USART_STAT` (R108): refused once the gate is open. -/
def execWrUsartStat (v : Word) (s : State) : Result := writeAlone .usartStat v s

/-- `RD.USART_DATA` (R109). -/
def execRdUsartData (s : State) : Result := readAlone .usartData s

/-- `WR.USART_DATA` (R110). -/
def execWrUsartData (v : Word) (s : State) : Result := writeAlone .usartData v s

/-- `RD.USART_BAUD` (R111). -/
def execRdUsartBaud (s : State) : Result := readAlone .usartBaud s

/-- `WR.USART_BAUD` (R112). -/
def execWrUsartBaud (v : Word) (s : State) : Result := writeAlone .usartBaud v s

/-- `RD.USART_CTL0` (R113). -/
def execRdUsartCtl0 (s : State) : Result := readAlone .usartCtl0 s

/-- `WR.USART_CTL0` (R114). -/
def execWrUsartCtl0 (v : Word) (s : State) : Result := writeAlone .usartCtl0 v s

end Sys2Proof.Machine
end

