-- ==== Sys2Proof/Machine/ClockEnable.lean ====
section
/-! DEFINITION. `ClockController.enable` (spec/41_clock_enable.md). -/

namespace Sys2Proof.Machine

/-- `enable(RCU_BASE, mask)`: exactly one write of `RCU_CLKEN`, no read, an overwrite (R120, R121). -/
def execEnable (mask : Word) (s : State) : Result :=
  whenRunning s (busWrite none .rcuClken mask s fun t => .next (t.setPhase .idle))

end Sys2Proof.Machine
end

