-- ==== Sys2Proof/Machine/MicroProgram.lean ====
section
/-! DEFINITION. The eleven micro-operations (spec/45_main_sequencer.md R177 to R188): each performs exactly one bus
transaction and sets `upc` to its successor. -/

namespace Sys2Proof.Machine

/-- A micro-operation that reads a register (R177). -/
def microRead (r : Reg) (s : State) (k : Word → State → State) : Result :=
  whenRunning s (busRead (some s.upc) r s fun v t => .next (k v t))

/-- A micro-operation that writes a register and goes on to `next` (R177). -/
def microWrite (r : Reg) (v : Word) (next : Nibble) (s : State) : Result :=
  whenRunning s (busWrite (some s.upc) r v s fun t => .next (t.setUpc next))

/-- `CLK_EN` (R178). -/
def execClkEn (s : State) : Result := microWrite .rcuClken Config.clkMask 1#4 s

/-- `TXP_RD` (R179). -/
def execTxpRd (s : State) : Result :=
  microRead (gpioReg s.params.txPin) s fun v t => (t.setTmp v).setUpc 2#4

/-- `TXP_WR` (R180). -/
def execTxpWr (s : State) : Result :=
  microWrite (gpioReg s.params.txPin) (insertField s.tmp s.params.txPin Config.txConfig) 3#4 s

/-- `RXP_RD` (R181). -/
def execRxpRd (s : State) : Result :=
  microRead (gpioReg s.params.rxPin) s fun v t => (t.setTmp v).setUpc 4#4

/-- `RXP_WR` (R182). -/
def execRxpWr (s : State) : Result :=
  microWrite (gpioReg s.params.rxPin) (insertField s.tmp s.params.rxPin Config.rxConfig) 5#4 s

/-- `BAUD_WR` (R183). -/
def execBaudWr (s : State) : Result := microWrite .usartBaud (divisorWord s.params) 6#4 s

/-- `CTL_WR` (R184). -/
def execCtlWr (s : State) : Result := microWrite .usartCtl0 Config.usartEnWord 7#4 s

/-- `RX_POLL` (R185). -/
def execRxPoll (s : State) : Result :=
  microRead .usartStat s fun v t => (t.setTmp v).setUpc (if rbneSeen v then 8#4 else 7#4)

/-- `RX_READ` (R186). -/
def execRxRead (s : State) : Result :=
  microRead .usartData s fun v t => (t.setCh v).setUpc 9#4

/-- `TX_POLL` (R187). -/
def execTxPoll (s : State) : Result :=
  microRead .usartStat s fun v t => (t.setTmp v).setUpc (if tbeSeen v then 10#4 else 9#4)

/-- `TX_WRITE` (R188). -/
def execTxWrite (s : State) : Result := microWrite .usartData s.ch 7#4 s

end Sys2Proof.Machine
end

