-- ==== Sys2Proof/Machine/PinConfigure.lean ====
section
/-! DEFINITION. `PinConfigurator.configure` (spec/42_pin_configure.md R128 to R136): two transactions on one register, a step
each (R60), with the read word in `tmp` between them (R33, log 11). -/

namespace Sys2Proof.Machine

/-- `configure(GPIO_BASE, pinIndex, config)`: the read, then the write of the word with the field inserted (R128). -/
def execConfigure (pin config : Nibble) (s : State) : Result :=
  whenRunning s
    (if s.phase = .configureWrite pin config then
      busWrite none (gpioReg pin) (insertField s.tmp pin config) s fun t => .next (t.setPhase .idle)
    else
      busRead none (gpioReg pin) s fun v t => .next ((t.setTmp v).setPhase (.configureWrite pin config)))

end Sys2Proof.Machine
end

