-- ==== Sys2Proof/Machine/Serial.lean ====
section
/-! DEFINITION. `SerialChannel.receive` and `SerialChannel.transmit` (spec/44_serial_channel.md R154 to R163): each step is one
status read or the one data access (R162). -/

namespace Sys2Proof.Machine

/-- `receive()` (R154): a status read into `tmp`, again until bit 5 is 1; then the data read into `ch` (R33, R156). -/
def execReceive (s : State) : Result :=
  whenRunning s
    (if s.phase = .receiveReady then
      busRead none .usartData s fun v t => .next ((t.setCh v).setPhase .idle)
    else
      busRead none .usartStat s fun v t =>
        .next ((t.setTmp v).setPhase (if rbneSeen v then .receiveReady else .receiveWaiting)))

/-- `transmit(byte)` (R158): a status read into `tmp`, again until bit 7 is 1; then the write of `byte` unmodified
(R160). -/
def execTransmit (value : Word) (s : State) : Result :=
  whenRunning s
    (if s.phase = .transmitReady value then
      busWrite none .usartData value s fun t => .next (t.setPhase .idle)
    else
      busRead none .usartStat s fun v t =>
        .next ((t.setTmp v).setPhase (if tbeSeen v then .transmitReady value else .transmitWaiting value)))

end Sys2Proof.Machine
end

