-- ==== Sys2Proof/Machine/UsartInit.lean ====
section
/-! DEFINITION. `UsartController.init` (spec/43_usart_init_baud.md R142 to R146, R152): the baud register, then the control
register (R143), a step each (R60). -/

namespace Sys2Proof.Machine

/-- `init(USART_BASE, divisor)` (R142): `USART_BAUD <- divisor`, then `USART_CTL0 <- 0x0000200C` (R144). -/
def execInit (divisor : Word) (s : State) : Result :=
  whenRunning s
    (if s.phase = .initControl divisor then
      busWrite none .usartCtl0 Config.usartEnWord s fun t => .next (t.setPhase .idle)
    else
      busWrite none .usartBaud divisor s fun t => .next (t.setPhase (.initControl divisor)))

end Sys2Proof.Machine
end

