-- ==== Sys2Proof/Machine/Dispatch.lean ====
section
/-! DEFINITION. The meaning of every operation of spec/opcode_table.json, one arm per constructor. -/

namespace Sys2Proof.Machine

def exec (i : Instr) (s : State) : Host.Outcome State Fault Refusal :=
  match i with
  | .rdRcuClken => Sys2Proof.Machine.execRdRcuClken s
  | .wrRcuClken v => Sys2Proof.Machine.execWrRcuClken v s
  | .rdGpioCtl0 => Sys2Proof.Machine.execRdGpioCtl0 s
  | .wrGpioCtl0 v => Sys2Proof.Machine.execWrGpioCtl0 v s
  | .rdGpioCtl1 => Sys2Proof.Machine.execRdGpioCtl1 s
  | .wrGpioCtl1 v => Sys2Proof.Machine.execWrGpioCtl1 v s
  | .rdUsartStat => Sys2Proof.Machine.execRdUsartStat s
  | .wrUsartStat v => Sys2Proof.Machine.execWrUsartStat v s
  | .rdUsartData => Sys2Proof.Machine.execRdUsartData s
  | .wrUsartData v => Sys2Proof.Machine.execWrUsartData v s
  | .rdUsartBaud => Sys2Proof.Machine.execRdUsartBaud s
  | .wrUsartBaud v => Sys2Proof.Machine.execWrUsartBaud v s
  | .rdUsartCtl0 => Sys2Proof.Machine.execRdUsartCtl0 s
  | .wrUsartCtl0 v => Sys2Proof.Machine.execWrUsartCtl0 v s
  | .enable mask => Sys2Proof.Machine.execEnable mask s
  | .configure pin config => Sys2Proof.Machine.execConfigure pin config s
  | .init divisor => Sys2Proof.Machine.execInit divisor s
  | .receive => Sys2Proof.Machine.execReceive s
  | .transmit value => Sys2Proof.Machine.execTransmit value s
  | .clkEn => Sys2Proof.Machine.execClkEn s
  | .txpRd => Sys2Proof.Machine.execTxpRd s
  | .txpWr => Sys2Proof.Machine.execTxpWr s
  | .rxpRd => Sys2Proof.Machine.execRxpRd s
  | .rxpWr => Sys2Proof.Machine.execRxpWr s
  | .baudWr => Sys2Proof.Machine.execBaudWr s
  | .ctlWr => Sys2Proof.Machine.execCtlWr s
  | .rxPoll => Sys2Proof.Machine.execRxPoll s
  | .rxRead => Sys2Proof.Machine.execRxRead s
  | .txPoll => Sys2Proof.Machine.execTxPoll s
  | .txWrite => Sys2Proof.Machine.execTxWrite s

end Sys2Proof.Machine
end

