-- ==== Sys2Proof/Machine/Phy.lean ====
section
/-! DEFINITION. The PHY agents (spec/44_serial_channel.md R164 to R169) and the line (spec/42_pin_configure.md R139, R140). -/

namespace Sys2Proof.Machine

/-- `rx_arrive(c, ferr, nerr)` (R165, R166): the conditions are recorded (R198 to R200); the character fills an empty
buffer, or is lost and recorded as an overrun. -/
def rxArrive (c : Byte) (ferr nerr : Bool) (s : State) : State :=
  let err := { s.err with
    overrun := s.err.overrun || s.rxFull
    framing := s.err.framing || ferr
    noise := s.err.noise || nerr }
  if s.rxFull then (s.setErr err).logRx (.arrived c ferr nerr false)
  else ((s.setErr err).fillRx c).logRx (.arrived c ferr nerr true)

/-- A `PHY_RX` turn: it steps only while `rx_enabled` (R169); else the character is lost without record (R167). -/
def phyRx (c : Byte) (ferr nerr : Bool) (s : State) : State :=
  if rxEnabled s then rxArrive c ferr nerr s else s

/-- A character on the line to `RX_PIN`: offered as it is where R140 guarantees the connection; elsewhere `PHY_RX` offers
whatever a free value says, or nothing (R140, log 15). -/
def lineRx (c : Byte) (ferr nerr : Bool) (s : State) : State :=
  if rxConnected s then phyRx c ferr nerr s
  else
    match Config.rxLineDraw s.draws with
    | some (c', ferr', nerr') => phyRx c' ferr' nerr' s.drawn
    | none => s.drawn

/-- The line's side of `tx_take`: the character appears on the line where R139 guarantees the connection; elsewhere a
free value says whether it does (R139, log 15). -/
def driveLine (c : Byte) (s : State) : State :=
  if txConnected s then s.logLine (.taken c)
  else if Config.txLineDraw s.draws then s.drawn.logLine (.taken c)
  else s.drawn

/-- `tx_take` (R168): `tx_log` gets `tx_buf[7:0]`, whether or not the line is connected (R139); `tx_full <- 0`;
`tx_buf` keeps its bits. -/
def txTake (s : State) : State :=
  (driveLine (s.txBuf.extractLsb' 0 8) (s.logTx (.taken (s.txBuf.extractLsb' 0 8)))).drainTx

/-- A `PHY_TX` turn: it steps only while `tx_enabled` and `tx_full = 1` (R168, R169). -/
def phyTx (s : State) : State :=
  if txEnabled s && s.txFull then txTake s else s

end Sys2Proof.Machine
end

