-- ==== Sys2Proof/Machine/Sequencer.lean ====
section
/-! DEFINITION. What one turn of each agent does (spec/00_scope.md R8): `SEQ` decodes and performs what stands at its port,
else the micro-operation `upc` selects (spec/45_main_sequencer.md R176, R194); the PHY agents; RESET. -/

namespace Sys2Proof.Machine

/-- What `SEQ` performs next: the item at the head of the port, else the micro-program at `upc` (R75, R176, log 9). -/
def fetch (s : State) : CodeWord :=
  match s.port with
  | [] => .uop s.upc
  | it :: _ => .port it

/-- Whether what `SEQ` performed is over: a transaction is over at once, a driver operation when none is under way any
more (R194); what faulted stays where it stood (R204). -/
def finished (cw : CodeWord) (t : State) : Bool :=
  t.fault.isNone &&
    match cw with
    | .port (.op _) => t.phase == .idle
    | .port _ => true
    | .uop _ => false

/-- Take a finished item off the port. -/
def retire (cw : CodeWord) (t : State) : State :=
  if finished cw t then t.setPort t.port.tail else t

/-- A code word that is no operation: `raise IllegalState(upc)` for a `upc` of 11 to 15 (R189, R201), else the refusal
is recorded (R207). -/
def rejectWord (e : DecodeError) (s : State) : State :=
  match DecodeError.refusal e with
  | some r => s.markRefused r
  | none => raise .illegalState (some s.upc) none s

/-- What the step keeps of an operation's answer: the next state with the finished item taken off; a refusal is recorded in
`refused`, with no other effect (R207, log 7). -/
def settle (cw : CodeWord) (s : State) (o : Result) : Result :=
  match o with
  | .next t => .next (retire cw t)
  | .fault f => .fault f
  | .refused r => .next (s.markRefused r)

/-- One `SEQ` step (R176, R208). -/
def seqStep (s : State) : Result :=
  whenRunning s
    (match decode s.params (fetch s) with
    | .ok i => settle (fetch s) s (exec i s)
    | .error e => .next (rejectWord e s))

/-- A PHY agent's step, which a recorded fault does not stop (R204) and a recorded refusal does (R207). -/
def unlessRefused (s : State) (t : State) : Result :=
  match s.refused with
  | some r => .refused r
  | none => .next t

/-- A scheduled `SEQ` turn: where a fault is recorded `SEQ` has no step and the turn passes, so that the other agents go
on (R204, log 5). -/
def seqTurn (s : State) : Result :=
  match s.refused, s.fault with
  | none, some _ => .next s
  | _, _ => seqStep s

/-- One agent's turn (R8). RESET is enabled in any state (R220). -/
def agentStep (turn : Turn) (s : State) : Result :=
  match turn with
  | .seq => seqTurn s
  | .rxArrive c ferr nerr => unlessRefused s (phyRx c ferr nerr s)
  | .lineRx c ferr nerr => unlessRefused s (lineRx c ferr nerr s)
  | .txTake => unlessRefused s (phyTx s)
  | .reset => .next (resetStep s)

/-- The next turn of the schedule; with none left, `SEQ` steps (R170, log 4). -/
def nextTurn (s : State) : Result :=
  match s.sched with
  | [] => seqStep s
  | turn :: rest => agentStep turn (s.setSched rest)

/-- The next turn under parameters that violate R5 or R6: whoever's turn it is, `refused <- illegalParameters` and nothing
else (R6, R207, log 8); a refusal recorded before is final. RESET is enabled here too (R220). -/
def refusedTurn (s : State) : Result :=
  match s.sched with
  | .reset :: rest => .next (resetStep (s.setSched rest))
  | turns => unlessRefused s ((s.setSched turns.tail).markRefused .illegalParameters)

end Sys2Proof.Machine
end

