-- ==== Sys2Proof/Machine/Step.lean ====
section
/-! DEFINITION. One step of the machine, and how a word of spec/opcode_table.json is placed so that the next step runs it. -/

namespace Sys2Proof.Machine

/-- One step: the next agent's turn. Parameters that violate R5 or R6 are refused (R6, R207, log 8). -/
def step (s : State) : Host.Outcome State Fault Refusal :=
  if s.params.legal then nextTurn s else refusedTurn s

/-- Place a table word where `SEQ` looks next and give `SEQ` the next turn (log 19): a micro-operation's word is the value
of `upc`, with nothing at the port; a BUS key or an OP word is the item at the head of the port, with no operation under way. -/
def State.withFetchWord (s : State) (nbits w : Nat) : State :=
  match tableCodeWord nbits w with
  | .uop u => { s with upc := u, port := [], sched := .seq :: s.sched }
  | .port it => { s with port := it :: s.port, phase := .idle, sched := .seq :: s.sched }

end Sys2Proof.Machine
end

