-- ==== Sys2Proof/Safety.lean ====
section
/-! DEFINITION. What counts as a safe run, in the terms the statements use: when an operation may run, what the histories say
(spec/10_state.md R32, spec/45_main_sequencer.md R191 to R193), the invariants, and the fairness premises
(spec/44_serial_channel.md R170). No step calls anything of this file. -/

namespace Sys2Proof.Machine

/-- `fault` and `refused` are empty: `SEQ` has a step (R208). -/
abbrev Running (s : State) : Prop := s.refused = none ∧ s.fault = none

/-- The state after a `ClockNotReady` fault and nothing else (R197, R204), written out. -/
def clockFaulted (s : State) (upc : Option Nibble) (addr : Word) : State :=
  { s with
    fault := some { kind := .clockNotReady, upc := upc, addr := some addr }
    err := { s.err with clock := true } }

/-- The word of the control register a pin belongs to (R129), written out. -/
def gpioWord (s : State) (pin : Nibble) : Word := if pin.toNat < 8 then s.gpioCtl0 else s.gpioCtl1

/-- `portBase + off`, the address of the control register a pin belongs to (R128), written out. -/
def gpioAddr (p : Params) (pin : Nibble) : Word := p.gpioBase + (if pin.toNat < 8 then 0x00#32 else 0x04#32)

/-- The state with another word in the control register a pin belongs to, written out. -/
def withGpioWord (s : State) (pin : Nibble) (v : Word) : State :=
  if pin.toNat < 8 then { s with gpioCtl0 := v } else { s with gpioCtl1 := v }

/-- `(old & ~_32 (0xF << shift)) | (config << shift)` with `shift = (pinIndex mod 8) * 4` (R128), written out. -/
def insertedWord (old : Word) (pin config : Nibble) : Word :=
  (old &&& ~~~(0xF#32 <<< (pin.toNat % 8 * 4))) ||| (config.setWidth 32 <<< (pin.toNat % 8 * 4))

/-- `n` steps of one operation. -/
def execTimes (i : Instr) (s : State) : Nat → Result
  | 0 => .next s
  | n + 1 =>
    match execTimes i s n with
    | .next t => exec i t
    | .fault f => .fault f
    | .refused r => .refused r

/-! ## Histories -/

/-- One `rx_hist` entry's effect on the characters accepted since the last reset. -/
def acceptEvent (acc : List Byte) (e : RxEvent) : List Byte :=
  match e with
  | .arrived c _ _ accepted => if accepted then acc ++ [c] else acc
  | .reset => []

/-- `A`: the characters of the records with `accepted = true`, in order, since the last reset (R192). -/
def acceptedChars (l : List RxEvent) : List Byte := l.foldl acceptEvent []

/-- One `tx_log` entry's effect on the characters taken since the last reset. -/
def sendEvent (acc : List Byte) (e : TxEvent) : List Byte :=
  match e with
  | .taken c => acc ++ [c]
  | .reset => []

/-- The characters of `tx_log` since the last reset (R192). -/
def sentChars (l : List TxEvent) : List Byte := l.foldl sendEvent []

/-- One `bus_log` entry's effect on the transactions since the last reset. -/
def busEvent (acc : List BusEvent) (e : BusEvent) : List BusEvent :=
  match e with
  | .reset => []
  | _ => acc ++ [e]

/-- The transactions of `bus_log` since the last reset (R193). -/
def transactions (l : List BusEvent) : List BusEvent := l.foldl busEvent []

/-- The characters inside the harness, oldest first: in `tx_buf`, in `ch` between `RX_READ` and `TX_WRITE`, in `rx_buf`
(R172, R192). -/
def inFlight (s : State) : List Byte :=
  (if s.txFull then [s.txBuf.extractLsb' 0 8] else []) ++
    (if s.upc = 9#4 ∨ s.upc = 10#4 then [s.ch.extractLsb' 0 8] else []) ++
    (if s.rxFull then [s.rxBuf.extractLsb' 0 8] else [])

/-! ## The start-up transactions -/

/-- The seven start-up transactions, given the words the two GPIO reads return (R193). -/
def startupTrace (p : Params) (a b : Word) : List BusEvent :=
  [ .write (addrOf p .rcuClken) Config.clkMask,
    .read (addrOf p (gpioReg p.txPin)) a,
    .write (addrOf p (gpioReg p.txPin)) (insertField a p.txPin Config.txConfig),
    .read (addrOf p (gpioReg p.rxPin)) b,
    .write (addrOf p (gpioReg p.rxPin)) (insertField b p.rxPin Config.rxConfig),
    .write (addrOf p .usartBaud) (divisorWord p),
    .write (addrOf p .usartCtl0) Config.usartEnWord ]

/-- A transaction of the echo loop (R193): a read of `USART_STAT`, a read of `USART_DATA` or a write of `USART_DATA`. -/
def echoTransaction (p : Params) : BusEvent → Prop
  | .read a _ => a = addrOf p .usartStat ∨ a = addrOf p .usartData
  | .write a _ => a = addrOf p .usartData
  | .reset => False

/-- The transactions since the last reset are the first `upc` of the seven and then the echo loop's, and between the read
and the write of a read-modify-write `tmp` holds the word the trace shows as read (R33, R177, R193). -/
def TraceInv (s : State) : Prop :=
  ∃ a b : Word,
    (transactions s.busLog).take 7 = (startupTrace s.params a b).take s.upc.toNat ∧
    (∀ e ∈ (transactions s.busLog).drop 7, echoTransaction s.params e) ∧
    (s.upc = 2#4 → s.tmp = a) ∧ (s.upc = 4#4 → s.tmp = b)

/-! ## Invariants -/

/-- Which operation a phase belongs to. -/
def phaseOwner : OpPhase → Option Instr
  | .idle => none
  | .configureWrite pin config => some (.configure pin config)
  | .initControl d => some (.init d)
  | .receiveWaiting | .receiveReady => some .receive
  | .transmitWaiting v | .transmitReady v => some (.transmit v)

/-- An operation under way is the one at the head of the port (R135: one after the other, never interleaved). -/
def PhaseAtPort (s : State) : Prop :=
  ∀ i, phaseOwner s.phase = some i → ∃ w rest, s.port = .op w :: rest ∧ decodeOp w = .ok i

/-- What every step keeps, of every state: `upc` selects a micro-operation (R34, R189), `USART_CTL0` has no 1 outside its three
fields (R28), `USART_BAUD` is a legal divisor or its reset value (R26), and an operation under way is at the port. -/
structure StateInv (s : State) : Prop where
  upcLegal : s.upc.toNat ≤ 10
  controlBits : ctlLegal s.usartCtl0 = true
  baudValue : divisorLegal s.usartBaud = true ∨ s.usartBaud = s.params.usartBaudReset
  phaseAtPort : PhaseAtPort s

/-- The harness running its own micro-program with legal parameters, nothing presented at its port: what holds in every
run from reset (R177, R192, R193, R207). -/
structure HarnessInv (s : State) : Prop where
  legal : s.params.legal = true
  running : Running s
  alone : s.port = []
  upcLegal : s.upc.toNat ≤ 10
  clocks : s.rcuClken = if s.upc = 0#4 then 0#32 else Config.clkMask
  divisor : 6 ≤ s.upc.toNat → s.usartBaud = divisorWord s.params
  control : s.usartCtl0 = if s.upc.toNat ≤ 6 then 0#32 else Config.usartEnWord
  txPinRead : s.upc = 2#4 → s.tmp = gpioWord s s.params.txPin
  rxPinRead : s.upc = 4#4 → s.tmp = gpioWord s s.params.rxPin
  txPin : 3 ≤ s.upc.toNat → pinCfg s s.params.txPin = Config.txConfig
  rxPin : 5 ≤ s.upc.toNat → pinCfg s s.params.rxPin = Config.rxConfig
  quiet : s.upc.toNat ≤ 6 → s.rxFull = false ∧ s.txFull = false
  received : s.upc = 8#4 → s.rxFull = true
  sendable : s.upc = 10#4 → s.txFull = false
  rxByte : s.rxFull = true → s.rxBuf = (s.rxBuf.extractLsb' 0 8).setWidth 9
  chByte : s.upc = 9#4 ∨ s.upc = 10#4 → s.ch = (s.ch.extractLsb' 0 8).setWidth 32
  echo : acceptedChars s.rxHist = sentChars s.txLog ++ inFlight s
  line : s.lineLog = s.txLog
  trace : TraceInv s

/-- The state at reset with parameters `p` and a schedule of turns to come. -/
def launch (p : Params) (turns : List Turn) : State :=
  (State.resetWith p).setSched turns

/-! ## The driver operations of start-up -/

/-- The four driver operations of start-up with the parameters bound (R94). -/
def startupOps (p : Params) : List Instr :=
  [ .enable Config.clkMask, .configure p.txPin Config.txConfig, .configure p.rxPin Config.rxConfig,
    .init (divisorWord p) ]

/-- An operation as an item of the port. -/
def portItem (i : Instr) : Option PortItem :=
  match encode i with
  | .port it => some it
  | .uop _ => none

/-! ## Observation and noninterference -/

/-- The state without the bookkeeping that "no rule of the harness reads" (R31, R32): the error bits and the histories. -/
def forgetBookkeeping (s : State) : State :=
  { s with
    err := { overrun := false, framing := false, noise := false, clock := false }
    rxHist := [], txLog := [], busLog := [], lineLog := [] }

/-- An outcome whose next state is seen without the bookkeeping. -/
def forgetOutcome : Result → Result
  | .next t => .next (forgetBookkeeping t)
  | .fault f => .fault f
  | .refused r => .refused r

/-! ## Runs over an endless schedule -/

/-- `k` turns of the schedule `σ`, stopping at the first fault or refusal. -/
def turns (σ : Nat → Turn) (s : State) : Nat → Result
  | 0 => .next s
  | k + 1 =>
    match turns σ s k with
    | .next t => agentStep (σ k) t
    | .fault f => .fault f
    | .refused r => .refused r

/-- `SEQ` is weakly fair (R170): it gets a turn again and again. -/
def SeqFair (σ : Nat → Turn) : Prop := ∀ k, ∃ j, k ≤ j ∧ σ j = .seq

/-- `TX_FAIR` (R170): "if `tx_enabled and tx_full = 1` holds continuously, `tx_take` eventually happens". A premise, not
a fact (log 22). -/
def TxFair (σ : Nat → Turn) (s : State) : Prop :=
  ∀ k, (∀ j, k ≤ j → ∃ t, turns σ s j = .next t ∧ txEnabled t = true ∧ t.txFull = true) →
    ∃ j, k ≤ j ∧ σ j = .txTake

end Sys2Proof.Machine
end

