-- ==== Sys2Proof/Certificates/Slice0/Obligations.lean ====
section
/-! DEFINITION. The statements for the provers. Each docstring names the rule of spec/ it formalises, or the log entry of
the model's choice it rests on. A record update `{ s with … }` in a conclusion says the whole frame: every field not
named there is unchanged, the count of draws and the model's other own fields included. -/

open Sys2Proof Sys2Proof.Machine

/-! ## Encoding -/

/-- Decode and encode agree, for every operation with every operand (spec/30_encoding.md R76, R88, R89). -/
def Obligations.DecodeOfEncodeIsTheInstruction : Prop :=
  ∀ (p : Params) (i : Instr), decode p (encode i) = .ok i

/-- Every accepted word is the encoding of what it decodes to: OP words and `upc` values exactly, BUS keys but for the data
word of a read, which a read does not carry (R76, R88, R89, R91). -/
def Obligations.AcceptedWordIsTheEncoding : Prop :=
  (∀ w i, decodeOp w = .ok i → encode i = .port (.op w)) ∧
  (∀ u i, decodeUop u = .ok i → encode i = .uop u) ∧
  (∀ k v i, decodeKey k v = .ok i → encode i = .port (.key k v) ∨ (k.getLsbD 7 = false ∧ encode i = .port (.key k 0#32)))

/-- A bus transaction by address selects the register at that address; a wrong width, a misaligned and an unmapped address
are rejected (R52, R54, R55, R57, R76; that the width comes first is the model's choice, log 19). -/
def Obligations.BusAddressSelectsTheRegister : Prop :=
  (∀ (p : Params) (d : Dir) (r : Reg) (v : Word), p.legal = true →
    decode p (.port (.bus { dir := d, width := 4, addr := addrOf p r, wdata := v })) = .ok (busInstr d r v)) ∧
  (∀ (p : Params) (t : BusItem), t.width ≠ 4 → decode p (.port (.bus t)) = .error .width) ∧
  (∀ (p : Params) (t : BusItem), t.width = 4 → t.addr.toNat % 4 ≠ 0 → decode p (.port (.bus t)) = .error .misaligned) ∧
  (∀ (p : Params) (t : BusItem), t.width = 4 → t.addr.toNat % 4 = 0 → (∀ r, t.addr ≠ addrOf p r) →
    decode p (.port (.bus t)) = .error .unmapped)

/-- The reserved and illegal encodings of R91 that are refused or faulted as words: the OP selectors, the reserved operand
bits, the keys other than the fourteen, the `upc` values 11 to 15. -/
def Obligations.ReservedEncodingsAreRejected : Prop :=
  (∀ w, 5 ≤ (opSelector w).toNat → decodeOp w = .error .reservedSelector) ∧
  (∀ operand : Word, operand >>> 8 ≠ 0#32 → decodeOp (0b001#3 ++ operand) = .error .reservedOperandBits) ∧
  (∀ operand : Word, operand ≠ 0#32 → decodeOp (0b011#3 ++ operand) = .error .reservedOperandBits) ∧
  (∀ (k : BitVec 8) (v : Word),
    k ∉ [0x18#8, 0x98#8, 0x20#8, 0xA0#8, 0x24#8, 0xA4#8, 0x40#8, 0xC0#8, 0x44#8, 0xC4#8, 0x48#8, 0xC8#8, 0x4C#8, 0xCC#8] →
    decodeKey k v = .error .unmapped) ∧
  (∀ u : Nibble, 11 ≤ u.toNat → decodeUop u = .error (.illegalUpc u))

/-- Words written out from the spec's encodings decode to the operations they stand for (R76, R88, R89; vectors P1, P5, P6). -/
def Obligations.SpecWordsDecode : Prop :=
  decode Config.binding (.port (.key 0x18#8 0#32)) = .ok .rdRcuClken ∧
  decode Config.binding (.port (.key 0xC4#8 0x41#32)) = .ok (.wrUsartData 0x41#32) ∧
  decode Config.binding (.port (.bus ⟨.write, 4, 0x40013808#32, 0x45#32⟩)) = .ok (.wrUsartBaud 0x45#32) ∧
  decode Config.binding (.port (.op 0x000004005#35)) = .ok (.enable 0x4005#32) ∧
  decode Config.binding (.port (.op 0x10000009B#35)) = .ok (.configure 9#4 0xB#4) ∧
  decode Config.binding (.port (.op 0x200000045#35)) = .ok (.init 69#32) ∧
  decode Config.binding (.port (.op 0x300000000#35)) = .ok .receive ∧
  decode Config.binding (.port (.op 0x400000041#35)) = .ok (.transmit 0x41#32) ∧
  decode Config.binding (.uop 0b0111#4) = .ok .rxPoll ∧
  decode Config.binding (.uop 0b1010#4) = .ok .txWrite

/-! ## The step -/

/-- A `SEQ` step runs the decoded operation: what stands at the port, else the micro-operation of `upc`. The step keeps the
operation's next state, with a finished item taken off the port, and records a refusal (logs 4, 7, 9). -/
def Obligations.StepRunsTheDecodedInstruction : Prop :=
  ∀ (s : State) (i : Instr), s.params.legal = true → Running s → decode s.params (fetch s) = .ok i →
    (s.port = [] → fetch s = .uop s.upc) ∧
    (∀ it rest, s.port = it :: rest → fetch s = .port it) ∧
    (s.sched = [] → step s = settle (fetch s) s (exec i s)) ∧
    (∀ rest, s.sched = .seq :: rest →
      step s = settle (fetch s) (s.setSched rest) (exec i (s.setSched rest)))

/-- What the step keeps: of a micro-operation the next state itself; of a bus transaction that did not fault the state
without the item; of a driver operation the item stays until no operation is under way; after a fault the port is kept
(R194, R204; the port: log 9, the phase: log 10). That a refusal becomes a next state with nothing but the record is the
model's reading of R207 (log 7). -/
def Obligations.FinishedItemLeavesThePort : Prop :=
  ∀ (s t : State),
    (∀ u, settle (.uop u) s (.next t) = .next t) ∧
    (∀ w, t.fault = none → t.phase = .idle → settle (.port (.op w)) s (.next t) = .next { t with port := t.port.tail }) ∧
    (∀ w, t.phase ≠ .idle → settle (.port (.op w)) s (.next t) = .next t) ∧
    (∀ k v, t.fault = none → settle (.port (.key k v)) s (.next t) = .next { t with port := t.port.tail }) ∧
    (∀ b, t.fault = none → settle (.port (.bus b)) s (.next t) = .next { t with port := t.port.tail }) ∧
    (∀ cw, t.fault ≠ none → settle cw s (.next t) = .next t) ∧
    (∀ cw r, settle cw s (.refused r) = .next { s with refused := some r })

/-- A table word placed by `withFetchWord` is what the next step runs (log 19). -/
def Obligations.TableWordRunsNext : Prop :=
  ∀ (s : State) (nbits w : Nat) (i : Instr), s.params.legal = true → Running s → decodeTableWord nbits w = some i →
    step (s.withFetchWord nbits w) =
      settle (tableCodeWord nbits w) ((s.withFetchWord nbits w).setSched s.sched)
        (exec i ((s.withFetchWord nbits w).setSched s.sched))

/-! ## Bus transactions -/

/-- `RCU_CLKEN`: never gated; a read returns the stored word; a write replaces all 32 bits; the gate checks and the PHY
agents' enabling conditions use the new bits; a second write of the same value changes nothing but `bus_log` (R101, R102). -/
def Obligations.ClockEnableTransactions : Prop :=
  ∀ (s : State) (v : Word), Running s →
    exec .rdRcuClken s =
      .next { s with busLog := s.busLog ++ [.read (s.params.rcuBase + 0x18#32) s.rcuClken] } ∧
    ∃ t, exec (.wrRcuClken v) s = .next t ∧
      t = { s with rcuClken := v, busLog := s.busLog ++ [.write (s.params.rcuBase + 0x18#32) v] } ∧
      exec (.wrRcuClken v) t =
        .next { t with busLog := t.busLog ++ [.write (s.params.rcuBase + 0x18#32) v] } ∧
      (∀ r, gateOpen r t =
        match r.block with
        | .rcu => true
        | .gpio => v.getLsbD 2
        | .usart => v.getLsbD 14) ∧
      rxEnabled t = (v.getLsbD 14 && uen s && ren s && baudOk s) ∧
      txEnabled t = (v.getLsbD 14 && uen s && ten s && baudOk s)

/-- `RD.GPIO_CTL0`, `RD.GPIO_CTL1`: the stored word, no side effect, or the fault `ClockNotReady` (R103, R105). -/
def Obligations.GpioReadTransactions : Prop :=
  ∀ s : State, Running s →
    exec .rdGpioCtl0 s =
      (if paen s then .next { s with busLog := s.busLog ++ [.read (s.params.gpioBase + 0x00#32) s.gpioCtl0] }
      else .next (clockFaulted s (some s.upc) (s.params.gpioBase + 0x00#32))) ∧
    exec .rdGpioCtl1 s =
      (if paen s then .next { s with busLog := s.busLog ++ [.read (s.params.gpioBase + 0x04#32) s.gpioCtl1] }
      else .next (clockFaulted s (some s.upc) (s.params.gpioBase + 0x04#32)))

/-- `WR.GPIO_CTL0`, `WR.GPIO_CTL1`: all 32 bits replaced, the eight pins' outputs follow at once, or the fault
`ClockNotReady` (R104, R106, R137). -/
def Obligations.GpioWriteTransactions : Prop :=
  ∀ (s : State) (v : Word), Running s →
    (paen s = true →
      (∃ t, exec (.wrGpioCtl0 v) s = .next t ∧
        t = { s with gpioCtl0 := v, busLog := s.busLog ++ [.write (s.params.gpioBase + 0x00#32) v] } ∧
        ∀ pin : Nibble, pin.toNat < 8 → pinCfg t pin = (v >>> (4 * pin.toNat)).setWidth 4) ∧
      (∃ t, exec (.wrGpioCtl1 v) s = .next t ∧
        t = { s with gpioCtl1 := v, busLog := s.busLog ++ [.write (s.params.gpioBase + 0x04#32) v] } ∧
        ∀ pin : Nibble, 8 ≤ pin.toNat → pinCfg t pin = (v >>> (4 * (pin.toNat - 8))).setWidth 4)) ∧
    (paen s = false →
      exec (.wrGpioCtl0 v) s = .next (clockFaulted s (some s.upc) (s.params.gpioBase + 0x00#32)) ∧
      exec (.wrGpioCtl1 v) s = .next (clockFaulted s (some s.upc) (s.params.gpioBase + 0x04#32)))

/-- `RD.USART_STAT`: bit 5 is `rx_full`, bit 7 is `1 - tx_full`, every other bit the draw's; no side effect but the count
of draws, which is the model's own (R107; log 13); readable whatever `USART_CTL0` holds. -/
def Obligations.StatusReadTransaction : Prop :=
  ∀ s : State, Running s →
    (usart0en s = true →
      ∃ w : Word,
        exec .rdUsartStat s =
          .next { s with
            draws := s.draws + 1
            busLog := s.busLog ++ [.read (s.params.usartBase + 0x00#32) w] } ∧
        w.getLsbD 5 = s.rxFull ∧ w.getLsbD 7 = !s.txFull ∧
        ∀ i, i < 32 → i ≠ 5 → i ≠ 7 → w.getLsbD i = (Config.statDraw s.draws).getLsbD i) ∧
    (usart0en s = false →
      exec .rdUsartStat s = .next (clockFaulted s (some s.upc) (s.params.usartBase + 0x00#32)))

/-- `WR.USART_STAT`: refused once the common checks pass (R108). -/
def Obligations.StatusWriteIsRefused : Prop :=
  ∀ (s : State) (v : Word), Running s →
    exec (.wrUsartStat v) s =
      (if usart0en s then .refused .statusReadOnly
      else .next (clockFaulted s (some s.upc) (s.params.usartBase + 0x00#32)))

/-- `RD.USART_DATA`: the waiting character, and RBNE cleared; with none waiting a free 9-bit value and nothing changed but
the count of draws, the model's own field (R109; log 13). `WR.USART_DATA`: the buffer keeps bits 8:0 and TBE is cleared; refused while the buffer is
full (R110). With the gate closed the fault `ClockNotReady`. -/
def Obligations.DataTransactions : Prop :=
  ∀ (s : State) (v : Word), Running s →
    exec .rdUsartData s =
      (if usart0en s then
        (if s.rxFull then
          .next { s with
            rxFull := false
            busLog := s.busLog ++ [.read (s.params.usartBase + 0x04#32) (s.rxBuf.setWidth 32)] }
        else
          .next { s with
            draws := s.draws + 1
            busLog := s.busLog ++ [.read (s.params.usartBase + 0x04#32) ((Config.dataDraw s.draws).setWidth 32)] })
      else .next (clockFaulted s (some s.upc) (s.params.usartBase + 0x04#32))) ∧
    exec (.wrUsartData v) s =
      (if usart0en s then
        (if s.txFull then .refused .transmitBufferFull
        else
          .next { s with
            txBuf := v.setWidth 9, txFull := true
            busLog := s.busLog ++ [.write (s.params.usartBase + 0x04#32) v] })
      else .next (clockFaulted s (some s.upc) (s.params.usartBase + 0x04#32)))

/-- `RD.USART_BAUD`, `WR.USART_BAUD`: the stored word; a write of 1 to `0xFFFF` replaces it, any other value is refused; else
the fault `ClockNotReady` (R111, R112). -/
def Obligations.BaudTransactions : Prop :=
  ∀ (s : State) (v : Word), Running s →
    (usart0en s = true →
      exec .rdUsartBaud s =
        .next { s with busLog := s.busLog ++ [.read (s.params.usartBase + 0x08#32) s.usartBaud] } ∧
      (1 ≤ v.toNat → v.toNat ≤ 0xFFFF → exec (.wrUsartBaud v) s =
        .next { s with usartBaud := v, busLog := s.busLog ++ [.write (s.params.usartBase + 0x08#32) v] }) ∧
      (v = 0#32 ∨ 0xFFFF < v.toNat → exec (.wrUsartBaud v) s = .refused .divisorOutOfRange)) ∧
    (usart0en s = false →
      exec .rdUsartBaud s = .next (clockFaulted s (some s.upc) (s.params.usartBase + 0x08#32)) ∧
      exec (.wrUsartBaud v) s = .next (clockFaulted s (some s.upc) (s.params.usartBase + 0x08#32)))

/-- `RD.USART_CTL0`, `WR.USART_CTL0`: the stored word; one of the eight legal values replaces it and `uen`, `ren`, `ten`
follow; any other value is refused; else the fault `ClockNotReady` (R113, R114). -/
def Obligations.ControlTransactions : Prop :=
  ∀ (s : State) (v : Word), Running s →
    (usart0en s = true →
      exec .rdUsartCtl0 s =
        .next { s with busLog := s.busLog ++ [.read (s.params.usartBase + 0x0C#32) s.usartCtl0] } ∧
      (v ∈ [0x0000#32, 0x0004#32, 0x0008#32, 0x000C#32, 0x2000#32, 0x2004#32, 0x2008#32, 0x200C#32] →
        ∃ t, exec (.wrUsartCtl0 v) s = .next t ∧
          t = { s with usartCtl0 := v, busLog := s.busLog ++ [.write (s.params.usartBase + 0x0C#32) v] } ∧
          uen t = v.getLsbD 13 ∧ ren t = v.getLsbD 2 ∧ ten t = v.getLsbD 3) ∧
      (v ∉ [0x0000#32, 0x0004#32, 0x0008#32, 0x000C#32, 0x2000#32, 0x2004#32, 0x2008#32, 0x200C#32] →
        exec (.wrUsartCtl0 v) s = .refused .unknownControlBits)) ∧
    (usart0en s = false →
      exec .rdUsartCtl0 s = .next (clockFaulted s (some s.upc) (s.params.usartBase + 0x0C#32)) ∧
      exec (.wrUsartCtl0 v) s = .next (clockFaulted s (some s.upc) (s.params.usartBase + 0x0C#32)))

/-! ## Driver operations -/

/-- `enable`: one write, no read, an overwrite; it never faults and is never refused (R120, R121; the field `phase` is the
model's own, log 10). -/
def Obligations.EnableOverwrites : Prop :=
  ∀ (s : State) (mask : Word), Running s →
    exec (.enable mask) s =
      .next { s with
        rcuClken := mask, phase := .idle
        busLog := s.busLog ++ [.write (s.params.rcuBase + 0x18#32) mask] }

/-- `enable` twice with one mask leaves every piece of state but `bus_log` as once (R123). -/
def Obligations.EnableTwiceIsEnableOnce : Prop :=
  ∀ (s : State) (mask : Word), Running s →
    ∃ t u, exec (.enable mask) s = .next t ∧ exec (.enable mask) t = .next u ∧ { u with busLog := t.busLog } = t

/-- `configure`: a read of the pin's register, then a write of the read word with the pin's field replaced, on the same
address; `ClockNotReady` at the transaction that finds the gate closed (R128 to R131; the step between, and `tmp`
holding the read word: logs 10, 11; the fault record without a `upc`: log 12). -/
def Obligations.ConfigureReadsThenWritesBack : Prop :=
  ∀ (s : State) (pin config : Nibble), Running s →
    (paen s = true → s.phase ≠ .configureWrite pin config →
      ∃ t, exec (.configure pin config) s = .next t ∧
        t = { s with
          tmp := gpioWord s pin, phase := .configureWrite pin config
          busLog := s.busLog ++ [.read (gpioAddr s.params pin) (gpioWord s pin)] } ∧
        exec (.configure pin config) t =
          .next { withGpioWord t pin (insertedWord (gpioWord s pin) pin config) with
            phase := .idle
            busLog := t.busLog ++ [.write (gpioAddr s.params pin) (insertedWord (gpioWord s pin) pin config)] }) ∧
    (paen s = true → s.phase = .configureWrite pin config →
      exec (.configure pin config) s =
        .next { withGpioWord s pin (insertedWord s.tmp pin config) with
          phase := .idle
          busLog := s.busLog ++ [.write (gpioAddr s.params pin) (insertedWord s.tmp pin config)] }) ∧
    (paen s = false →
      exec (.configure pin config) s = .next (clockFaulted s none (gpioAddr s.params pin)))

/-- `configure` changes the pin's own field to `config` and no other pin's field, and neither reads nor writes the other
register (R129, R132; two steps: log 10). -/
def Obligations.ConfigurePreservesOtherPins : Prop :=
  ∀ (s : State) (pin config : Nibble), Running s → paen s = true → s.phase ≠ .configureWrite pin config →
    ∃ t u, exec (.configure pin config) s = .next t ∧ exec (.configure pin config) t = .next u ∧
      pinCfg u pin = config ∧
      (∀ other : Nibble, other ≠ pin → pinCfg u other = pinCfg s other) ∧
      (pin.toNat < 8 → u.gpioCtl1 = s.gpioCtl1) ∧ (8 ≤ pin.toNat → u.gpioCtl0 = s.gpioCtl0)

/-- The field insertion leaves every bit outside the field as it was and puts `config` into the field, for every old word,
pin and value (R132). -/
def Obligations.InsertedFieldIsExact : Prop :=
  ∀ (old : Word) (pin config : Nibble),
    insertField old pin config &&& ~~~(0xF#32 <<< (pin.toNat % 8 * 4)) = old &&& ~~~(0xF#32 <<< (pin.toNat % 8 * 4)) ∧
    (insertField old pin config &&& (0xF#32 <<< (pin.toNat % 8 * 4))) >>> (pin.toNat % 8 * 4) = config.setWidth 32

/-- `init`: the baud register, then the control register with the fixed word; a divisor out of range is refused and nothing is
written; `ClockNotReady` at the transaction that finds the gate closed (R142, R143, R144; the step between: log 10; the
fault record without a `upc`: log 12). -/
def Obligations.InitWritesBaudThenControl : Prop :=
  ∀ (s : State) (d : Word), Running s →
    (usart0en s = true → 1 ≤ d.toNat → d.toNat ≤ 0xFFFF → s.phase ≠ .initControl d →
      ∃ t, exec (.init d) s = .next t ∧
        t = { s with
          usartBaud := d, phase := .initControl d
          busLog := s.busLog ++ [.write (s.params.usartBase + 0x08#32) d] } ∧
        exec (.init d) t =
          .next { t with
            usartCtl0 := 0x0000200C#32, phase := .idle
            busLog := t.busLog ++ [.write (s.params.usartBase + 0x0C#32) 0x0000200C#32] }) ∧
    (usart0en s = true → s.phase = .initControl d →
      exec (.init d) s =
        .next { s with
          usartCtl0 := 0x0000200C#32, phase := .idle
          busLog := s.busLog ++ [.write (s.params.usartBase + 0x0C#32) 0x0000200C#32] }) ∧
    (usart0en s = true → s.phase ≠ .initControl d → d = 0#32 ∨ 0xFFFF < d.toNat →
      exec (.init d) s = .refused .divisorOutOfRange) ∧
    (usart0en s = false → s.phase ≠ .initControl d →
      exec (.init d) s = .next (clockFaulted s none (s.params.usartBase + 0x08#32))) ∧
    (usart0en s = false → s.phase = .initControl d →
      exec (.init d) s = .next (clockFaulted s none (s.params.usartBase + 0x0C#32)))

/-- `receive`: a status read, again while bit 5 is 0; once it is 1, one data read whose value is returned in `ch`
(R154, R155, R156, R162; `tmp` and `ch` as the results' places: log 11; `phase` and `draws` are the model's own fields,
logs 10 and 13; the fault record without a `upc`: log 12). -/
def Obligations.ReceivePollsThenReads : Prop :=
  ∀ s : State, Running s →
    (usart0en s = true → s.phase ≠ .receiveReady →
      ∃ w : Word, w.getLsbD 5 = s.rxFull ∧ w.getLsbD 7 = !s.txFull ∧
        exec .receive s =
          .next { s with
            tmp := w, draws := s.draws + 1
            phase := if s.rxFull then .receiveReady else .receiveWaiting
            busLog := s.busLog ++ [.read (s.params.usartBase + 0x00#32) w] }) ∧
    (usart0en s = true → s.phase = .receiveReady → s.rxFull = true →
      exec .receive s =
        .next { s with
          ch := s.rxBuf.setWidth 32, rxFull := false, phase := .idle
          busLog := s.busLog ++ [.read (s.params.usartBase + 0x04#32) (s.rxBuf.setWidth 32)] }) ∧
    (usart0en s = true → s.phase = .receiveReady → s.rxFull = false →
      exec .receive s =
        .next { s with
          ch := (Config.dataDraw s.draws).setWidth 32, draws := s.draws + 1, phase := .idle
          busLog := s.busLog ++ [.read (s.params.usartBase + 0x04#32) ((Config.dataDraw s.draws).setWidth 32)] }) ∧
    (usart0en s = false → s.phase ≠ .receiveReady →
      exec .receive s = .next (clockFaulted s none (s.params.usartBase + 0x00#32))) ∧
    (usart0en s = false → s.phase = .receiveReady →
      exec .receive s = .next (clockFaulted s none (s.params.usartBase + 0x04#32)))

/-- `transmit`: a status read, again while bit 7 is 0; once it is 1, one data write of the operand unmodified (R158, R159,
R160, R162; `tmp`: log 11; `phase` and `draws` are the model's own fields, logs 10 and 13; the fault record without a
`upc`: log 12). -/
def Obligations.TransmitPollsThenWrites : Prop :=
  ∀ (s : State) (v : Word), Running s →
    (usart0en s = true → s.phase ≠ .transmitReady v →
      ∃ w : Word, w.getLsbD 5 = s.rxFull ∧ w.getLsbD 7 = !s.txFull ∧
        exec (.transmit v) s =
          .next { s with
            tmp := w, draws := s.draws + 1
            phase := if s.txFull then .transmitWaiting v else .transmitReady v
            busLog := s.busLog ++ [.read (s.params.usartBase + 0x00#32) w] }) ∧
    (usart0en s = true → s.phase = .transmitReady v → s.txFull = false →
      exec (.transmit v) s =
        .next { s with
          txBuf := v.setWidth 9, txFull := true, phase := .idle
          busLog := s.busLog ++ [.write (s.params.usartBase + 0x04#32) v] }) ∧
    (usart0en s = true → s.phase = .transmitReady v → s.txFull = true →
      exec (.transmit v) s = .refused .transmitBufferFull) ∧
    (usart0en s = false → s.phase ≠ .transmitReady v →
      exec (.transmit v) s = .next (clockFaulted s none (s.params.usartBase + 0x00#32))) ∧
    (usart0en s = false → s.phase = .transmitReady v →
      exec (.transmit v) s = .next (clockFaulted s none (s.params.usartBase + 0x04#32)))

/-- While nothing arrives `receive` goes on polling, for any number of steps, and while the buffer stays full so does
`transmit`: every step is one status read on the bus with the tested bit 0, and nothing else of the harness changes but
`tmp` (R62, R155, R159; `tmp`: log 11; `phase` and `draws` are the model's own fields, logs 10 and 13). -/
def Obligations.PollLoopsWait : Prop :=
  ∀ (s : State) (n : Nat), Running s → usart0en s = true →
    (s.rxFull = false → s.phase ≠ .receiveReady →
      ∃ t l, execTimes .receive s n = .next t ∧
        t = { s with tmp := t.tmp, phase := t.phase, draws := s.draws + n, busLog := s.busLog ++ l } ∧
        l.length = n ∧ ∀ e ∈ l, ∃ w, e = .read (s.params.usartBase + 0x00#32) w ∧ w.getLsbD 5 = false) ∧
    (∀ v, s.txFull = true → s.phase ≠ .transmitReady v →
      ∃ t l, execTimes (.transmit v) s n = .next t ∧
        t = { s with tmp := t.tmp, phase := t.phase, draws := s.draws + n, busLog := s.busLog ++ l } ∧
        l.length = n ∧ ∀ e ∈ l, ∃ w, e = .read (s.params.usartBase + 0x00#32) w ∧ w.getLsbD 7 = false)

/-! ## Micro-operations -/

/-- `CLK_EN` (R178): it never faults. -/
def Obligations.ClockEnableMicroOperation : Prop :=
  ∀ s : State, Running s →
    exec .clkEn s =
      .next { s with
        rcuClken := 0x00004005#32, upc := 1#4
        busLog := s.busLog ++ [.write (s.params.rcuBase + 0x18#32) 0x00004005#32] }

/-- `TXP_RD`, `RXP_RD` (R179, R181). -/
def Obligations.PinReadMicroOperations : Prop :=
  ∀ s : State, Running s →
    exec .txpRd s =
      (if paen s then
        .next { s with
          tmp := gpioWord s s.params.txPin, upc := 2#4
          busLog := s.busLog ++ [.read (gpioAddr s.params s.params.txPin) (gpioWord s s.params.txPin)] }
      else .next (clockFaulted s (some s.upc) (gpioAddr s.params s.params.txPin))) ∧
    exec .rxpRd s =
      (if paen s then
        .next { s with
          tmp := gpioWord s s.params.rxPin, upc := 4#4
          busLog := s.busLog ++ [.read (gpioAddr s.params s.params.rxPin) (gpioWord s s.params.rxPin)] }
      else .next (clockFaulted s (some s.upc) (gpioAddr s.params s.params.rxPin)))

/-- `TXP_WR`, `RXP_WR` (R180, R182): the word in `tmp` with the pin's field replaced by `0xB` or `0x4`; the pin's output
is that value at once. -/
def Obligations.PinWriteMicroOperations : Prop :=
  ∀ s : State, Running s →
    (paen s = true →
      (∃ t, exec .txpWr s = .next t ∧ pinCfg t s.params.txPin = 0xB#4 ∧
        t = { withGpioWord s s.params.txPin (insertedWord s.tmp s.params.txPin 0xB#4) with
          upc := 3#4
          busLog := s.busLog ++
            [.write (gpioAddr s.params s.params.txPin) (insertedWord s.tmp s.params.txPin 0xB#4)] }) ∧
      (∃ t, exec .rxpWr s = .next t ∧ pinCfg t s.params.rxPin = 0x4#4 ∧
        t = { withGpioWord s s.params.rxPin (insertedWord s.tmp s.params.rxPin 0x4#4) with
          upc := 5#4
          busLog := s.busLog ++
            [.write (gpioAddr s.params s.params.rxPin) (insertedWord s.tmp s.params.rxPin 0x4#4)] })) ∧
    (paen s = false →
      exec .txpWr s = .next (clockFaulted s (some s.upc) (gpioAddr s.params s.params.txPin)) ∧
      exec .rxpWr s = .next (clockFaulted s (some s.upc) (gpioAddr s.params s.params.rxPin)))

/-- `BAUD_WR`, `CTL_WR` (R183, R184): with a divisor outside 1 to `0xFFFF`, a parameter choice refused at launch, the
write is refused. -/
def Obligations.InitMicroOperations : Prop :=
  ∀ s : State, Running s →
    (usart0en s = true →
      (divisorLegal (divisorWord s.params) = true →
        exec .baudWr s =
          .next { s with
            usartBaud := divisorWord s.params, upc := 6#4
            busLog := s.busLog ++ [.write (s.params.usartBase + 0x08#32) (divisorWord s.params)] }) ∧
      (divisorLegal (divisorWord s.params) = false → exec .baudWr s = .refused .divisorOutOfRange) ∧
      exec .ctlWr s =
        .next { s with
          usartCtl0 := 0x0000200C#32, upc := 7#4
          busLog := s.busLog ++ [.write (s.params.usartBase + 0x0C#32) 0x0000200C#32] }) ∧
    (usart0en s = false →
      exec .baudWr s = .next (clockFaulted s (some s.upc) (s.params.usartBase + 0x08#32)) ∧
      exec .ctlWr s = .next (clockFaulted s (some s.upc) (s.params.usartBase + 0x0C#32)))

/-- `RX_POLL`, `TX_POLL` (R185, R187): one status read into `tmp`; the successor is decided by the tested bit alone,
whatever the other bits of the word are (`draws` is the model's own field, log 13). -/
def Obligations.PollMicroOperations : Prop :=
  ∀ s : State, Running s →
    (usart0en s = true →
      ∃ w : Word, w.getLsbD 5 = s.rxFull ∧ w.getLsbD 7 = !s.txFull ∧
        exec .rxPoll s =
          .next { s with
            tmp := w, draws := s.draws + 1, upc := if w.getLsbD 5 then 8#4 else 7#4
            busLog := s.busLog ++ [.read (s.params.usartBase + 0x00#32) w] } ∧
        exec .txPoll s =
          .next { s with
            tmp := w, draws := s.draws + 1, upc := if w.getLsbD 7 then 10#4 else 9#4
            busLog := s.busLog ++ [.read (s.params.usartBase + 0x00#32) w] }) ∧
    (usart0en s = false →
      exec .rxPoll s = .next (clockFaulted s (some s.upc) (s.params.usartBase + 0x00#32)) ∧
      exec .txPoll s = .next (clockFaulted s (some s.upc) (s.params.usartBase + 0x00#32)))

/-- `RX_READ`, `TX_WRITE` (R186, R188): the character from the receive buffer into `ch`, and `ch` unmodified onto the bus;
`RX_READ` with no character waiting, which the harness never does, takes a free value (R109; log 13). -/
def Obligations.DataMicroOperations : Prop :=
  ∀ s : State, Running s →
    (usart0en s = true →
      (s.rxFull = true → exec .rxRead s =
        .next { s with
          ch := s.rxBuf.setWidth 32, rxFull := false, upc := 9#4
          busLog := s.busLog ++ [.read (s.params.usartBase + 0x04#32) (s.rxBuf.setWidth 32)] }) ∧
      (s.rxFull = false → exec .rxRead s =
        .next { s with
          ch := (Config.dataDraw s.draws).setWidth 32, draws := s.draws + 1, upc := 9#4
          busLog := s.busLog ++ [.read (s.params.usartBase + 0x04#32) ((Config.dataDraw s.draws).setWidth 32)] }) ∧
      (s.txFull = false → exec .txWrite s =
        .next { s with
          txBuf := s.ch.setWidth 9, txFull := true, upc := 7#4
          busLog := s.busLog ++ [.write (s.params.usartBase + 0x04#32) s.ch] }) ∧
      (s.txFull = true → exec .txWrite s = .refused .transmitBufferFull)) ∧
    (usart0en s = false →
      exec .rxRead s = .next (clockFaulted s (some s.upc) (s.params.usartBase + 0x04#32)) ∧
      exec .txWrite s = .next (clockFaulted s (some s.upc) (s.params.usartBase + 0x04#32)))

/-- A `SEQ` step at a `upc` of 11 to 15 records the fault `IllegalState` and nothing else (R189, R201; that
`SEQ` steps where the schedule is empty: log 4). -/
def Obligations.IllegalStateIsRecorded : Prop :=
  ∀ s : State, s.params.legal = true → Running s → s.port = [] → s.sched = [] → 11 ≤ s.upc.toNat →
    step s = .next { s with fault := some { kind := .illegalState, upc := some s.upc, addr := none } }

/-! ## The PHY agents and the line -/

/-- `rx_arrive` while `rx_full = 0` delivers the character, with or without an error flag; while `rx_full = 1` the new
character is lost and the overrun recorded; the conditions are recorded in `err` (R165, R166, R198, R199, R200; the turn that
offers it: logs 4 and 16). -/
def Obligations.CharacterArrives : Prop :=
  ∀ (s : State) (c : Byte) (ferr nerr : Bool) (rest : List Turn), s.params.legal = true → s.refused = none →
    s.sched = .rxArrive c ferr nerr :: rest → rxEnabled s = true →
    (s.rxFull = false → step s =
      .next { s with
        sched := rest, rxBuf := c.setWidth 9, rxFull := true
        rxHist := s.rxHist ++ [.arrived c ferr nerr true]
        err := { s.err with framing := s.err.framing || ferr, noise := s.err.noise || nerr } }) ∧
    (s.rxFull = true → step s =
      .next { s with
        sched := rest, rxHist := s.rxHist ++ [.arrived c ferr nerr false]
        err := { s.err with overrun := true, framing := s.err.framing || ferr, noise := s.err.noise || nerr } })

/-- `tx_take`: `tx_log` gets `tx_buf[7:0]`, `tx_full` becomes 0, `tx_buf` keeps its bits; on the line the character appears
where R139 guarantees the connection, and elsewhere may or may not appear (R168, R139; the line history: log 15). -/
def Obligations.PendingCharacterIsTaken : Prop :=
  ∀ (s : State) (rest : List Turn), s.params.legal = true → s.refused = none → s.sched = .txTake :: rest →
    txEnabled s = true → s.txFull = true →
    ∃ t, step s = .next t ∧
      t = { s with
        sched := rest, txFull := false, txLog := s.txLog ++ [.taken (s.txBuf.setWidth 8)]
        lineLog := t.lineLog, draws := t.draws } ∧
      (t.lineLog = s.lineLog ∨ t.lineLog = s.lineLog ++ [.taken (s.txBuf.setWidth 8)]) ∧
      (pinCfg s s.params.txPin = 0xB#4 → s.rcuClken.getLsbD 0 = true → s.rcuClken.getLsbD 2 = true →
        t.lineLog = s.lineLog ++ [.taken (s.txBuf.setWidth 8)])

/-- A PHY agent has no step while its condition is false: `PHY_RX` without `rx_enabled`, `PHY_TX` without `tx_enabled` or
with nothing pending; the turn passes, the character is lost without record (R167, R169, R208; the turn that passes:
log 5). -/
def Obligations.DisabledPhyTurnsPass : Prop :=
  ∀ (s : State) (rest : List Turn), s.params.legal = true → s.refused = none →
    (∀ c ferr nerr, s.sched = .rxArrive c ferr nerr :: rest →
      (s.rcuClken.getLsbD 14 = false ∨ s.usartCtl0.getLsbD 13 = false ∨ s.usartCtl0.getLsbD 2 = false ∨
        s.usartBaud = 0#32 ∨ 0xFFFF < s.usartBaud.toNat) → step s = .next { s with sched := rest }) ∧
    (s.sched = .txTake :: rest →
      (s.rcuClken.getLsbD 14 = false ∨ s.usartCtl0.getLsbD 13 = false ∨ s.usartCtl0.getLsbD 3 = false ∨
        s.usartBaud = 0#32 ∨ 0xFFFF < s.usartBaud.toNat ∨ s.txFull = false) → step s = .next { s with sched := rest })

/-- A character on the line to `RX_PIN` is offered by `PHY_RX` where R140 guarantees the connection (R140; the line turn:
log 15). -/
def Obligations.ConnectedLineIsReceived : Prop :=
  ∀ (s : State) (c : Byte) (ferr nerr : Bool) (rest : List Turn),
    pinCfg s s.params.rxPin = 0x4#4 → s.rcuClken.getLsbD 0 = true → s.rcuClken.getLsbD 2 = true →
    step { s with sched := .lineRx c ferr nerr :: rest } = step { s with sched := .rxArrive c ferr nerr :: rest }

/-- What moves the flags, over every step (R22, R23, R157, R165, R168, R171). `rx_full` falls only by a read of `USART_DATA`,
which returns the buffered character, or by RESET; it rises only by an arrival, of the character the buffer then holds;
while it stays 1 so does the buffer. `tx_full` rises only by a write of `USART_DATA`; it falls only by `tx_take`, of the
character the buffer held, or by RESET; while it stays 1 so does the buffer. The turns: log 4; a line turn: log 15. -/
def Obligations.FlagsAreStable : Prop :=
  ∀ s t : State, step s = .next t →
    (s.rxFull = true → t.rxFull = false →
      (∃ rest, s.sched = .reset :: rest) ∨
        t.busLog = s.busLog ++ [.read (s.params.usartBase + 0x04#32) (s.rxBuf.setWidth 32)]) ∧
    (s.rxFull = false → t.rxFull = true →
      ∃ c ferr nerr rest, t.rxBuf = c.setWidth 9 ∧ t.rxHist = s.rxHist ++ [.arrived c ferr nerr true] ∧
        (s.sched = .rxArrive c ferr nerr :: rest ∨ ∃ c' ferr' nerr', s.sched = .lineRx c' ferr' nerr' :: rest)) ∧
    (s.rxFull = true → t.rxFull = true → t.rxBuf = s.rxBuf) ∧
    (s.txFull = false → t.txFull = true →
      ∃ v : Word, t.busLog = s.busLog ++ [.write (s.params.usartBase + 0x04#32) v] ∧ t.txBuf = v.setWidth 9) ∧
    (s.txFull = true → t.txFull = false →
      ∃ rest, s.sched = .reset :: rest ∨
        (s.sched = .txTake :: rest ∧ t.txLog = s.txLog ++ [.taken (s.txBuf.setWidth 8)])) ∧
    (s.txFull = true → t.txFull = true → t.txBuf = s.txBuf)

/-! ## Faults, refusals, RESET -/

/-- A fault an operation raises is precise: it is `ClockNotReady` at the address of a register whose gate is closed, it is
recorded with `err.clock`, and nothing else changes (R58, R197, R204; which `upc` the record names: log 12). -/
def Obligations.FaultHasNoOtherEffect : Prop :=
  ∀ (i : Instr) (s t : State), exec i s = .next t → t.fault ≠ none →
    ∃ r u, gateOpen r s = false ∧ (u = some s.upc ∨ u = none) ∧ t = clockFaulted s u (addrOf s.params r)

/-- With a fault recorded no operation has a step and `SEQ`'s turn passes; the PHY agents act as ever; no step but RESET
clears the record (R204, R205; the passing turn: log 5). -/
def Obligations.FaultStopsOnlyTheSequencer : Prop :=
  ∀ (s : State) (f : FaultRecord), s.params.legal = true → s.refused = none → s.fault = some f →
    (∀ i, exec i s = .fault (.halted f)) ∧
    (s.sched = [] → step s = .fault (.halted f)) ∧
    (∀ rest, s.sched = .seq :: rest → step s = .next { s with sched := rest }) ∧
    (∀ rest c ferr nerr, s.sched = .rxArrive c ferr nerr :: rest →
      step s = .next (phyRx c ferr nerr { s with sched := rest })) ∧
    (∀ rest, s.sched = .txTake :: rest → step s = .next (phyTx { s with sched := rest })) ∧
    (∀ t, step s = .next t → t.fault = some f ∨ ∃ rest, s.sched = .reset :: rest)

/-- A refusal is recorded and changes nothing else; from then on the model refuses every operation and every turn but
RESET (R115, R207; the recording by the step: log 7). -/
def Obligations.RefusalIsRecordedAndFinal : Prop :=
  (∀ (s : State) (i : Instr) (r : Refusal), s.params.legal = true → Running s → s.sched = [] →
    decode s.params (fetch s) = .ok i → exec i s = .refused r → step s = .next { s with refused := some r }) ∧
  (∀ (s : State) (e : DecodeError) (r : Refusal), s.params.legal = true → Running s → s.sched = [] →
    decode s.params (fetch s) = .error e → DecodeError.refusal e = some r →
    step s = .next { s with refused := some r }) ∧
  (∀ (s : State) (r : Refusal), s.refused = some r →
    (∀ i, exec i s = .refused r) ∧
    ((∀ rest, s.sched ≠ .reset :: rest) → step s = .refused r))

/-- Parameters that violate R5 or R6 are refused: the first turn, whoever's it is, records `illegalParameters` in `refused` and
changes nothing else, and from then on every step but RESET is refused (R6, R207; log 8; the turn that is used up: log 4;
addresses modulo 2^32: log 18). -/
def Obligations.IllegalParametersAreRefused : Prop :=
  ∀ s : State,
    (s.params.txPin = s.params.rxPin ∨ (∃ r r' : Reg, r ≠ r' ∧ addrOf s.params r = addrOf s.params r') ∨
      (∃ r : Reg, (addrOf s.params r).toNat % 4 ≠ 0) ∨
      s.params.clockFreq / 115200 = 0 ∨ 0xFFFF < s.params.clockFreq / 115200) →
    (∀ rest, s.sched ≠ .reset :: rest) →
    (s.refused = none → step s = .next { s with sched := s.sched.tail, refused := some .illegalParameters }) ∧
    (∀ r, s.refused = some r → step s = .refused r)

/-- The error bits are sticky: no step but RESET clears one (R31, R206). -/
def Obligations.ErrorBitsAreSticky : Prop :=
  ∀ s t : State, step s = .next t → (∀ rest, s.sched ≠ .reset :: rest) →
    (s.err.overrun = true → t.err.overrun = true) ∧ (s.err.framing = true → t.err.framing = true) ∧
    (s.err.noise = true → t.err.noise = true) ∧ (s.err.clock = true → t.err.clock = true)

/-- RESET, in any state, a faulted or a refused one too: every piece of state the spec gives a reset value takes it, and a
reset marker is appended to every history (R220); what `SEQ` performs next is micro-operation 0 (R223), the port and the
phase being empty (logs 9, 10; the line history: log 15). Nothing is said of the values "lost". -/
def Obligations.ResetRestoresTheHarness : Prop :=
  ∀ (s : State) (rest : List Turn), s.sched = .reset :: rest →
    ∃ t, step s = .next t ∧
      t.rcuClken = 0x00000000#32 ∧ t.gpioCtl0 = s.params.gpioCtl0Reset ∧ t.gpioCtl1 = s.params.gpioCtl1Reset ∧
      t.usartBaud = s.params.usartBaudReset ∧ t.usartCtl0 = 0x00000000#32 ∧ t.rxFull = false ∧ t.txFull = false ∧
      t.err = { overrun := false, framing := false, noise := false, clock := false } ∧ t.upc = 0#4 ∧
      t.fault = none ∧ t.refused = none ∧ t.busLog = s.busLog ++ [.reset] ∧ t.txLog = s.txLog ++ [.reset] ∧
      t.rxHist = s.rxHist ++ [.reset] ∧ t.params = s.params ∧ t.sched = rest ∧
      t.lineLog = s.lineLog ++ [.reset] ∧ t.port = [] ∧ t.phase = .idle ∧
      fetch t = .uop 0#4 ∧ decode t.params (fetch t) = .ok .clkEn

/-- The reset values the spec gives, for every choice of the open parameters (R37, R22, R23); `State.reset` is the choice
of log 2. -/
def Obligations.ResetValues : Prop :=
  (∀ p : Params,
    (State.resetWith p).rcuClken = 0x00000000#32 ∧ (State.resetWith p).gpioCtl0 = p.gpioCtl0Reset ∧
    (State.resetWith p).gpioCtl1 = p.gpioCtl1Reset ∧ (State.resetWith p).usartBaud = p.usartBaudReset ∧
    (State.resetWith p).usartCtl0 = 0x00000000#32 ∧ rbne (State.resetWith p) = false ∧
    tbe (State.resetWith p) = true ∧
    (State.resetWith p).err = { overrun := false, framing := false, noise := false, clock := false } ∧
    (State.resetWith p).upc = 0#4 ∧ (State.resetWith p).fault = none ∧ (State.resetWith p).refused = none) ∧
  Config.frame.dataBits = 8 ∧ Config.frame.parityBits = 0 ∧ Config.frame.stopBits = 1

/-! ## Operands and outputs -/

/-- The pure packing function and its inverse on a register word (R85, R95), at every pin. -/
def Obligations.PackAndUnpackAgree : Prop :=
  ∀ (pin : Nibble) (mode ctl : BitVec 2),
    pack pin mode ctl =
      ((if pin.toNat < 8 then 0 else 1), pin.toNat % 8 * 4, ((ctl ++ mode).setWidth 32 <<< (pin.toNat % 8 * 4))) ∧
    (∀ old : Word,
      fieldMode (fieldOf (insertField old pin (pinConfig mode ctl)) (pin.toNat % 8)) = mode ∧
      fieldCtl (fieldOf (insertField old pin (pinConfig mode ctl)) (pin.toNat % 8)) = ctl)

/-- The two field values with a meaning, and no other (R79, R138, R141). -/
def Obligations.PinFunctionsOfFields : Prop :=
  ∀ field : Nibble,
    (pinFunction field = .outputAlternatePushPull ↔ field = 0xB#4) ∧ (pinFunction field = .inputFloating ↔ field = 0x4#4)

/-- The divisor is the floor of the quotient, for every clock and every positive rate (R87, R145; vectors V-DIV-1, V-DIV-3,
V-DIV-7). While the generator runs the bit rate is the clock divided by it (R147, V-INI-4); with no legal divisor there is no
rate (R148). -/
def Obligations.DivisorAndBitRate : Prop :=
  (∀ clock rate : Nat, 0 < rate →
    divisorOf clock rate * rate ≤ clock ∧ clock < (divisorOf clock rate + 1) * rate) ∧
  divisorOf 8000000 115200 = 69 ∧ divisorOf 108000000 115200 = 937 ∧ divisorOf 8000000 122 = 65573 ∧
  (∀ s : State, uen s = true → 1 ≤ s.usartBaud.toNat → s.usartBaud.toNat ≤ 0xFFFF →
    bitRate s = some { num := s.params.clockFreq, den := s.usartBaud.toNat } ∧
    bitPeriod s = some { num := s.usartBaud.toNat, den := s.params.clockFreq }) ∧
  (∀ s : State, s.usartBaud = 0#32 ∨ 0xFFFF < s.usartBaud.toNat → bitRate s = none ∧ bitPeriod s = none)

/-! ## Invariants of every state -/

/-- The invariant of every state holds at reset, whatever the parameters and the schedule. -/
def Obligations.StateInvAtLaunch : Prop :=
  ∀ (p : Params) (turns : List Turn), StateInv (launch p turns)

/-- Every step keeps it: `upc` stays a micro-operation's (R34, R189), `USART_CTL0` stays within its three fields (R28),
`USART_BAUD` stays a legal divisor or the reset value (R26), an operation under way stays at the port (R135;
the port and the phase: logs 9 and 10). -/
def Obligations.EveryStepKeepsStateInv : Prop :=
  ∀ s t : State, StateInv s → step s = .next t → StateInv t

/-- Every history only grows, over RESET too (R32, R220); that the parameters stand in the state and never change is the
model's form of R5 (log 1), and the line history is its own (log 15). -/
def Obligations.HistoriesOnlyGrow : Prop :=
  ∀ s t : State, step s = .next t →
    t.params = s.params ∧ s.busLog <+: t.busLog ∧ s.rxHist <+: t.rxHist ∧ s.txLog <+: t.txLog ∧
    s.lineLog <+: t.lineLog

/-- One `SEQ` step performs at most one bus transaction, and a PHY turn none (R8, R60, R177; the turns: log 4). -/
def Obligations.OneTransactionAtMost : Prop :=
  ∀ s t : State, step s = .next t → (∀ rest, s.sched ≠ .reset :: rest) →
    (t.busLog = s.busLog ∨ ∃ a v, t.busLog = s.busLog ++ [.read a v] ∨ t.busLog = s.busLog ++ [.write a v]) ∧
    (∀ turn rest, s.sched = turn :: rest → turn ≠ .seq → t.busLog = s.busLog)

/-- The error bits and the histories are never read: two states that differ in them alone step alike (R31, R32, R163,
R206). -/
def Obligations.BookkeepingIsNeverRead : Prop :=
  ∀ s s' : State, forgetBookkeeping s = forgetBookkeeping s' → forgetOutcome (step s) = forgetOutcome (step s')

/-! ## The harness running its micro-program -/

/-- The harness invariant holds at launch with legal parameters, under every schedule. -/
def Obligations.HarnessInvAtLaunch : Prop :=
  ∀ (p : Params) (turns : List Turn), p.legal = true → HarnessInv (launch p turns)

/-- Every step keeps the harness invariant: clocks, pins, divisor and control word as the micro-program has set them, the
flags as the data accesses need them, every accepted character sent or inside the harness, and the transactions since
the last reset (with `tmp` between a read and its write back) as `upc` says (R171, R177, R192, R193; the port: log 9, the
line history: log 15, the histories' start: log 17). -/
def Obligations.EveryStepKeepsHarnessInv : Prop :=
  ∀ s t : State, HarnessInv s → step s = .next t → HarnessInv t

/-- The harness never stops: from every state of the invariant there is a next state, and no refusal and no fault is recorded
in it. A refusal and a fault are themselves next states of the model (logs 6, 7), so the conclusion says both; with
EveryStepKeepsHarnessInv neither is reachable from the micro-program with legal parameters (R207, R208). -/
def Obligations.HarnessNeverStops : Prop :=
  ∀ s : State, HarnessInv s → ∃ t, step s = .next t ∧ Running t

/-- Echo: in every run from reset, under every schedule, the characters sent are a prefix of those accepted, and at most
three are inside the harness (R192, its first part; schedules: log 4; the histories start empty: log 17). -/
def Obligations.SentIsAPrefixOfAccepted : Prop :=
  ∀ (p : Params) (turns : List Turn) (k : Nat), p.legal = true →
    ∃ t : State, Host.Core.run Sys2Proof.core k (launch p turns) = .next t ∧
      sentChars t.txLog <+: acceptedChars t.rxHist ∧
      (acceptedChars t.rxHist).length ≤ (sentChars t.txLog).length + 3

/-- The start-up transactions: in every run from reset the transactions since the last reset begin with the seven of R193,
as far as the run has come, and every later one belongs to the echo loop (R193; schedules: log 4; the histories start
empty: log 17). The step lemma under it is EveryStepKeepsHarnessInv, its field `trace`. -/
def Obligations.StartupTraceOfEveryRun : Prop :=
  ∀ (p : Params) (turns : List Turn) (k : Nat) (t : State), p.legal = true →
    Host.Core.run Sys2Proof.core k (launch p turns) = .next t →
    ∃ a b : Word, (transactions t.busLog).take 7 <+: startupTrace p a b ∧
      ∀ e ∈ (transactions t.busLog).drop 7, echoTransaction p e

/-- Once both pins are configured the two connection guarantees hold, and every character sent reached the line (R139,
R140, vector P1; the line history: log 15). -/
def Obligations.PinsStayConnected : Prop :=
  ∀ s : State, HarnessInv s → 5 ≤ s.upc.toNat → txConnected s = true ∧ rxConnected s = true ∧ s.lineLog = s.txLog

/-- The micro-operations 0 to 6 and the driver operations of R94 presented at the port leave the same state, `bus_log` and
`tmp` included, but for `upc` (R94, R177, R194, vector P1; the port: log 9; the steps of
a driver operation: log 10; its `tmp`: log 11). -/
def Obligations.MicroProgramPerformsTheDriverOperations : Prop :=
  ∀ s : State, s.params.legal = true → Running s → s.port = [] → s.phase = .idle → s.sched = [] → s.upc = 0#4 →
    ∃ t : State,
      Host.Core.run Sys2Proof.core 7 s = .next t ∧ t.upc = 7#4 ∧
      Host.Core.run Sys2Proof.core 7 { s with port := (startupOps s.params).filterMap portItem } =
        .next { t with upc := 0#4 }

/-- Liveness: with `SEQ` weakly fair, under the premise `TX_FAIR`, and without RESET, every accepted character eventually
appears in `tx_log` (R170, R192, its second part; the fairness premises as hypotheses on the schedule: log 22). -/
def Obligations.EveryAcceptedCharacterIsEchoed : Prop :=
  ∀ (s : State) (σ : Nat → Turn), HarnessInv s → (∀ k, σ k ≠ .reset) → SeqFair σ → TxFair σ s →
    ∀ (k : Nat) (t : State), turns σ s k = .next t →
      ∃ j u, k ≤ j ∧ turns σ s j = .next u ∧ acceptedChars t.rxHist <+: sentChars u.txLog
end

