-- ==== Sys2Proof/Laws/Histories.lean ====
section
/-! SUPPORT. The three readings of the histories since the last reset, one lemma per appended entry: `A` and the sent
characters of spec/45_main_sequencer.md R192, the transactions of R193. -/

namespace Sys2Proof.Machine

/-! ### Accepted characters -/

@[simp] theorem acceptedChars_nil : acceptedChars [] = [] := rfl

@[simp] theorem acceptedChars_arrived (l : List RxEvent) (c : Byte) (fe ne acc : Bool) :
    acceptedChars (l ++ [.arrived c fe ne acc]) = acceptedChars l ++ (if acc then [c] else []) := by
  cases acc <;> simp [acceptedChars, acceptEvent]

@[simp] theorem acceptedChars_reset (l : List RxEvent) : acceptedChars (l ++ [.reset]) = [] := by
  simp [acceptedChars, acceptEvent]

/-! ### Sent characters -/

@[simp] theorem sentChars_nil : sentChars [] = [] := rfl

@[simp] theorem sentChars_taken (l : List TxEvent) (c : Byte) : sentChars (l ++ [.taken c]) = sentChars l ++ [c] := by
  simp [sentChars, sendEvent]

@[simp] theorem sentChars_reset (l : List TxEvent) : sentChars (l ++ [.reset]) = [] := by
  simp [sentChars, sendEvent]

/-! ### Transactions -/

@[simp] theorem transactions_nil : transactions [] = [] := rfl

@[simp] theorem transactions_read (l : List BusEvent) (a v : Word) :
    transactions (l ++ [.read a v]) = transactions l ++ [.read a v] := by
  simp [transactions, busEvent]

@[simp] theorem transactions_write (l : List BusEvent) (a v : Word) :
    transactions (l ++ [.write a v]) = transactions l ++ [.write a v] := by
  simp [transactions, busEvent]

@[simp] theorem transactions_reset (l : List BusEvent) : transactions (l ++ [.reset]) = [] := by
  simp [transactions, busEvent]

@[simp] theorem startupTrace_length (p : Params) (a b : Word) : (startupTrace p a b).length = 7 := rfl

/-- While start-up is under way the transactions are exactly the first `upc` of the seven. -/
theorem transactions_of_take {l : List BusEvent} {p : Params} {a b : Word} {n : Nat} (hn : n < 7)
    (h : l.take 7 = (startupTrace p a b).take n) : l = (startupTrace p a b).take n := by
  have hl := congrArg List.length h
  simp only [List.length_take, startupTrace_length] at hl
  rw [← h, List.take_of_length_le (by omega)]

/-- An echo transaction extends the part after the seven alone. -/
theorem take_drop_echo {l : List BusEvent} {p : Params} {a b : Word} {n : Nat} (hn : 7 ≤ n) (e : BusEvent)
    (h : l.take 7 = (startupTrace p a b).take n) :
    (l ++ [e]).take 7 = (startupTrace p a b).take n ∧ (l ++ [e]).drop 7 = l.drop 7 ++ [e] := by
  have hl := congrArg List.length h
  simp only [List.length_take, startupTrace_length] at hl
  have hl' : 7 ≤ l.length := by omega
  exact ⟨by rw [List.take_append_of_le_length hl', h], List.drop_append_of_le_length hl'⟩

end Sys2Proof.Machine
end

