-- ==== Sys2Proof/Laws/Operands.lean ====
section
/-! SUPPORT. The bits of a status word and of an inserted field (spec/40_bus_register_access.md R107, spec/30_encoding.md R86). -/

namespace Sys2Proof.Machine

theorem bitWord_getLsbD (b : Bool) (i : Nat) : (bitWord b).getLsbD i = (b && decide (i = 0)) := by
  cases b
  · simp [bitWord]
  · simp [bitWord, BitVec.getLsbD_one]

theorem getLsbD_statusMask (i : Nat) (h : i < 32) :
    (0xFFFFFF5F#32).getLsbD i = (decide (i ≠ 5) && decide (i ≠ 7)) := by
  interval_cases i <;> decide

/-- Bit 5 of a status word is RBNE, bit 7 is TBE, every other bit is the draw's (R107). -/
theorem statWord_getLsbD (d : Word) (r t : Bool) (i : Nat) (h : i < 32) :
    (statWord d r t).getLsbD i = if i = 5 then r else if i = 7 then t else d.getLsbD i := by
  simp only [statWord, BitVec.getLsbD_or, BitVec.getLsbD_and, BitVec.getLsbD_shiftLeft, bitWord_getLsbD,
    getLsbD_statusMask i h]
  by_cases h5 : i = 5
  · subst h5; simp
  · by_cases h7 : i = 7
    · subst h7; simp
    · have off : ∀ (b : Bool) (k : Nat), i ≠ k → (!decide (i < k) && (b && decide (i - k = 0))) = false := by
        intro b k hk
        rcases Nat.lt_or_ge i k with hlt | hge
        · simp [hlt]
        · have : i - k ≠ 0 := by omega
          simp [this]
      simp only [h, decide_true, Bool.true_and, off r 5 h5, off t 7 h7]
      simp [h5, h7, h]

/-- A mask of one bit tests that bit. -/
theorem mask_test (v : Word) (k : Nat) (h : k < 32) : (v &&& BitVec.twoPow 32 k != 0#32) = v.getLsbD k := by
  cases hv : v.getLsbD k
  · have : v &&& BitVec.twoPow 32 k = 0#32 := by
      ext i hi
      simp [BitVec.getElem_eq_testBit_toNat, BitVec.and_twoPow]
      simp [hv]
    simp [this]
  · have : v &&& BitVec.twoPow 32 k ≠ 0#32 := by
      intro he
      have hk := congrArg (fun w : Word => w.getLsbD k) he
      rw [BitVec.getLsbD_and, BitVec.getLsbD_twoPow, hv] at hk
      simp [h] at hk
    simpa using this

theorem rbneSeen_eq (v : Word) : rbneSeen v = v.getLsbD 5 := mask_test v 5 (by omega)

theorem tbeSeen_eq (v : Word) : tbeSeen v = v.getLsbD 7 := mask_test v 7 (by omega)

/-- The bit test of the receive poll sees RBNE, whatever the draw (R107, R155). -/
@[simp] theorem rbneSeen_statWord (d : Word) (r t : Bool) : rbneSeen (statWord d r t) = r := by
  rw [rbneSeen_eq, statWord_getLsbD _ _ _ _ (by omega)]; simp

/-- The bit test of the transmit poll sees TBE, whatever the draw (R107, R159). -/
@[simp] theorem tbeSeen_statWord (d : Word) (r t : Bool) : tbeSeen (statWord d r t) = t := by
  rw [tbeSeen_eq, statWord_getLsbD _ _ _ _ (by omega)]; simp

theorem pinShift_le (pin : Nibble) : pinShift pin ≤ 28 := by unfold pinShift; omega

theorem fieldMask_getLsbD (pin : Nibble) (i : Nat) (h : i < 32) :
    (fieldMask pin).getLsbD i = (decide (pinShift pin ≤ i) && decide (i < pinShift pin + 4)) := by
  have h15 : ∀ j, (0xF#32).getLsbD j = decide (j < 4) := by
    intro j
    rcases Nat.lt_or_ge j 4 with hj | hj
    · interval_cases j <;> decide
    · simp only [BitVec.getLsbD, BitVec.toNat_ofNat]
      rw [Nat.testBit_lt_two_pow (by
        calc 15 % 2 ^ 32 < 2 ^ 4 := by norm_num
          _ ≤ 2 ^ j := Nat.pow_le_pow_right (by omega) hj)]
      simp; omega
  simp only [fieldMask, BitVec.getLsbD_shiftLeft, h, h15]
  by_cases hl : pinShift pin ≤ i
  · have : ¬ i < pinShift pin := by omega
    simp [this, hl]; omega
  · have : i < pinShift pin := by omega
    simp [this, hl]

/-- Inside the pin's field an inserted word has the configuration's bits, outside it the old word's (R86, R132). -/
theorem insertField_getLsbD (old : Word) (pin config : Nibble) (i : Nat) (h : i < 32) :
    (insertField old pin config).getLsbD i =
      if pinShift pin ≤ i ∧ i < pinShift pin + 4 then config.getLsbD (i - pinShift pin) else old.getLsbD i := by
  simp only [insertField, BitVec.getLsbD_or, BitVec.getLsbD_and, BitVec.getLsbD_not, BitVec.getLsbD_shiftLeft,
    BitVec.getLsbD_setWidth, fieldMask_getLsbD _ _ h, h]
  by_cases hl : pinShift pin ≤ i
  · have h1 : ¬ i < pinShift pin := by omega
    by_cases hu : i < pinShift pin + 4
    · have : i - pinShift pin < 32 := by omega
      simp [h1, hl, hu, this]
    · have h4 : 4 ≤ i - pinShift pin := by omega
      have h5 : config.getLsbD (i - pinShift pin) = false := BitVec.getLsbD_of_ge _ _ h4
      simp [h1, hl, hu, h5]
  · have h1 : i < pinShift pin := by omega
    simp [h1, hl]

end Sys2Proof.Machine
end

