-- ==== Sys2Proof/Laws/State.lean ====
section
/-! SUPPORT. One lemma per field per named update, each true by unfolding, so that no later proof unfolds a record update. -/

namespace Sys2Proof.Machine

variable (s : State)

/-! ### logBus -/

@[simp] theorem logBus_rcuClken (e : BusEvent) : (s.logBus e).rcuClken = s.rcuClken := rfl
@[simp] theorem logBus_gpioCtl0 (e : BusEvent) : (s.logBus e).gpioCtl0 = s.gpioCtl0 := rfl
@[simp] theorem logBus_gpioCtl1 (e : BusEvent) : (s.logBus e).gpioCtl1 = s.gpioCtl1 := rfl
@[simp] theorem logBus_usartBaud (e : BusEvent) : (s.logBus e).usartBaud = s.usartBaud := rfl
@[simp] theorem logBus_usartCtl0 (e : BusEvent) : (s.logBus e).usartCtl0 = s.usartCtl0 := rfl
@[simp] theorem logBus_rxBuf (e : BusEvent) : (s.logBus e).rxBuf = s.rxBuf := rfl
@[simp] theorem logBus_rxFull (e : BusEvent) : (s.logBus e).rxFull = s.rxFull := rfl
@[simp] theorem logBus_txBuf (e : BusEvent) : (s.logBus e).txBuf = s.txBuf := rfl
@[simp] theorem logBus_txFull (e : BusEvent) : (s.logBus e).txFull = s.txFull := rfl
@[simp] theorem logBus_err (e : BusEvent) : (s.logBus e).err = s.err := rfl
@[simp] theorem logBus_upc (e : BusEvent) : (s.logBus e).upc = s.upc := rfl
@[simp] theorem logBus_tmp (e : BusEvent) : (s.logBus e).tmp = s.tmp := rfl
@[simp] theorem logBus_ch (e : BusEvent) : (s.logBus e).ch = s.ch := rfl
@[simp] theorem logBus_fault (e : BusEvent) : (s.logBus e).fault = s.fault := rfl
@[simp] theorem logBus_refused (e : BusEvent) : (s.logBus e).refused = s.refused := rfl
@[simp] theorem logBus_rxHist (e : BusEvent) : (s.logBus e).rxHist = s.rxHist := rfl
@[simp] theorem logBus_txLog (e : BusEvent) : (s.logBus e).txLog = s.txLog := rfl
@[simp] theorem logBus_busLog (e : BusEvent) : (s.logBus e).busLog = s.busLog ++ [e] := rfl
@[simp] theorem logBus_params (e : BusEvent) : (s.logBus e).params = s.params := rfl
@[simp] theorem logBus_lineLog (e : BusEvent) : (s.logBus e).lineLog = s.lineLog := rfl
@[simp] theorem logBus_port (e : BusEvent) : (s.logBus e).port = s.port := rfl
@[simp] theorem logBus_phase (e : BusEvent) : (s.logBus e).phase = s.phase := rfl
@[simp] theorem logBus_sched (e : BusEvent) : (s.logBus e).sched = s.sched := rfl
@[simp] theorem logBus_draws (e : BusEvent) : (s.logBus e).draws = s.draws := rfl

/-! ### setTmp -/

@[simp] theorem setTmp_rcuClken (v : Word) : (s.setTmp v).rcuClken = s.rcuClken := rfl
@[simp] theorem setTmp_gpioCtl0 (v : Word) : (s.setTmp v).gpioCtl0 = s.gpioCtl0 := rfl
@[simp] theorem setTmp_gpioCtl1 (v : Word) : (s.setTmp v).gpioCtl1 = s.gpioCtl1 := rfl
@[simp] theorem setTmp_usartBaud (v : Word) : (s.setTmp v).usartBaud = s.usartBaud := rfl
@[simp] theorem setTmp_usartCtl0 (v : Word) : (s.setTmp v).usartCtl0 = s.usartCtl0 := rfl
@[simp] theorem setTmp_rxBuf (v : Word) : (s.setTmp v).rxBuf = s.rxBuf := rfl
@[simp] theorem setTmp_rxFull (v : Word) : (s.setTmp v).rxFull = s.rxFull := rfl
@[simp] theorem setTmp_txBuf (v : Word) : (s.setTmp v).txBuf = s.txBuf := rfl
@[simp] theorem setTmp_txFull (v : Word) : (s.setTmp v).txFull = s.txFull := rfl
@[simp] theorem setTmp_err (v : Word) : (s.setTmp v).err = s.err := rfl
@[simp] theorem setTmp_upc (v : Word) : (s.setTmp v).upc = s.upc := rfl
@[simp] theorem setTmp_tmp (v : Word) : (s.setTmp v).tmp = v := rfl
@[simp] theorem setTmp_ch (v : Word) : (s.setTmp v).ch = s.ch := rfl
@[simp] theorem setTmp_fault (v : Word) : (s.setTmp v).fault = s.fault := rfl
@[simp] theorem setTmp_refused (v : Word) : (s.setTmp v).refused = s.refused := rfl
@[simp] theorem setTmp_rxHist (v : Word) : (s.setTmp v).rxHist = s.rxHist := rfl
@[simp] theorem setTmp_txLog (v : Word) : (s.setTmp v).txLog = s.txLog := rfl
@[simp] theorem setTmp_busLog (v : Word) : (s.setTmp v).busLog = s.busLog := rfl
@[simp] theorem setTmp_params (v : Word) : (s.setTmp v).params = s.params := rfl
@[simp] theorem setTmp_lineLog (v : Word) : (s.setTmp v).lineLog = s.lineLog := rfl
@[simp] theorem setTmp_port (v : Word) : (s.setTmp v).port = s.port := rfl
@[simp] theorem setTmp_phase (v : Word) : (s.setTmp v).phase = s.phase := rfl
@[simp] theorem setTmp_sched (v : Word) : (s.setTmp v).sched = s.sched := rfl
@[simp] theorem setTmp_draws (v : Word) : (s.setTmp v).draws = s.draws := rfl

/-! ### setCh -/

@[simp] theorem setCh_rcuClken (v : Word) : (s.setCh v).rcuClken = s.rcuClken := rfl
@[simp] theorem setCh_gpioCtl0 (v : Word) : (s.setCh v).gpioCtl0 = s.gpioCtl0 := rfl
@[simp] theorem setCh_gpioCtl1 (v : Word) : (s.setCh v).gpioCtl1 = s.gpioCtl1 := rfl
@[simp] theorem setCh_usartBaud (v : Word) : (s.setCh v).usartBaud = s.usartBaud := rfl
@[simp] theorem setCh_usartCtl0 (v : Word) : (s.setCh v).usartCtl0 = s.usartCtl0 := rfl
@[simp] theorem setCh_rxBuf (v : Word) : (s.setCh v).rxBuf = s.rxBuf := rfl
@[simp] theorem setCh_rxFull (v : Word) : (s.setCh v).rxFull = s.rxFull := rfl
@[simp] theorem setCh_txBuf (v : Word) : (s.setCh v).txBuf = s.txBuf := rfl
@[simp] theorem setCh_txFull (v : Word) : (s.setCh v).txFull = s.txFull := rfl
@[simp] theorem setCh_err (v : Word) : (s.setCh v).err = s.err := rfl
@[simp] theorem setCh_upc (v : Word) : (s.setCh v).upc = s.upc := rfl
@[simp] theorem setCh_tmp (v : Word) : (s.setCh v).tmp = s.tmp := rfl
@[simp] theorem setCh_ch (v : Word) : (s.setCh v).ch = v := rfl
@[simp] theorem setCh_fault (v : Word) : (s.setCh v).fault = s.fault := rfl
@[simp] theorem setCh_refused (v : Word) : (s.setCh v).refused = s.refused := rfl
@[simp] theorem setCh_rxHist (v : Word) : (s.setCh v).rxHist = s.rxHist := rfl
@[simp] theorem setCh_txLog (v : Word) : (s.setCh v).txLog = s.txLog := rfl
@[simp] theorem setCh_busLog (v : Word) : (s.setCh v).busLog = s.busLog := rfl
@[simp] theorem setCh_params (v : Word) : (s.setCh v).params = s.params := rfl
@[simp] theorem setCh_lineLog (v : Word) : (s.setCh v).lineLog = s.lineLog := rfl
@[simp] theorem setCh_port (v : Word) : (s.setCh v).port = s.port := rfl
@[simp] theorem setCh_phase (v : Word) : (s.setCh v).phase = s.phase := rfl
@[simp] theorem setCh_sched (v : Word) : (s.setCh v).sched = s.sched := rfl
@[simp] theorem setCh_draws (v : Word) : (s.setCh v).draws = s.draws := rfl

/-! ### setUpc -/

@[simp] theorem setUpc_rcuClken (n : Nibble) : (s.setUpc n).rcuClken = s.rcuClken := rfl
@[simp] theorem setUpc_gpioCtl0 (n : Nibble) : (s.setUpc n).gpioCtl0 = s.gpioCtl0 := rfl
@[simp] theorem setUpc_gpioCtl1 (n : Nibble) : (s.setUpc n).gpioCtl1 = s.gpioCtl1 := rfl
@[simp] theorem setUpc_usartBaud (n : Nibble) : (s.setUpc n).usartBaud = s.usartBaud := rfl
@[simp] theorem setUpc_usartCtl0 (n : Nibble) : (s.setUpc n).usartCtl0 = s.usartCtl0 := rfl
@[simp] theorem setUpc_rxBuf (n : Nibble) : (s.setUpc n).rxBuf = s.rxBuf := rfl
@[simp] theorem setUpc_rxFull (n : Nibble) : (s.setUpc n).rxFull = s.rxFull := rfl
@[simp] theorem setUpc_txBuf (n : Nibble) : (s.setUpc n).txBuf = s.txBuf := rfl
@[simp] theorem setUpc_txFull (n : Nibble) : (s.setUpc n).txFull = s.txFull := rfl
@[simp] theorem setUpc_err (n : Nibble) : (s.setUpc n).err = s.err := rfl
@[simp] theorem setUpc_upc (n : Nibble) : (s.setUpc n).upc = n := rfl
@[simp] theorem setUpc_tmp (n : Nibble) : (s.setUpc n).tmp = s.tmp := rfl
@[simp] theorem setUpc_ch (n : Nibble) : (s.setUpc n).ch = s.ch := rfl
@[simp] theorem setUpc_fault (n : Nibble) : (s.setUpc n).fault = s.fault := rfl
@[simp] theorem setUpc_refused (n : Nibble) : (s.setUpc n).refused = s.refused := rfl
@[simp] theorem setUpc_rxHist (n : Nibble) : (s.setUpc n).rxHist = s.rxHist := rfl
@[simp] theorem setUpc_txLog (n : Nibble) : (s.setUpc n).txLog = s.txLog := rfl
@[simp] theorem setUpc_busLog (n : Nibble) : (s.setUpc n).busLog = s.busLog := rfl
@[simp] theorem setUpc_params (n : Nibble) : (s.setUpc n).params = s.params := rfl
@[simp] theorem setUpc_lineLog (n : Nibble) : (s.setUpc n).lineLog = s.lineLog := rfl
@[simp] theorem setUpc_port (n : Nibble) : (s.setUpc n).port = s.port := rfl
@[simp] theorem setUpc_phase (n : Nibble) : (s.setUpc n).phase = s.phase := rfl
@[simp] theorem setUpc_sched (n : Nibble) : (s.setUpc n).sched = s.sched := rfl
@[simp] theorem setUpc_draws (n : Nibble) : (s.setUpc n).draws = s.draws := rfl

/-! ### setPhase -/

@[simp] theorem setPhase_rcuClken (ph : OpPhase) : (s.setPhase ph).rcuClken = s.rcuClken := rfl
@[simp] theorem setPhase_gpioCtl0 (ph : OpPhase) : (s.setPhase ph).gpioCtl0 = s.gpioCtl0 := rfl
@[simp] theorem setPhase_gpioCtl1 (ph : OpPhase) : (s.setPhase ph).gpioCtl1 = s.gpioCtl1 := rfl
@[simp] theorem setPhase_usartBaud (ph : OpPhase) : (s.setPhase ph).usartBaud = s.usartBaud := rfl
@[simp] theorem setPhase_usartCtl0 (ph : OpPhase) : (s.setPhase ph).usartCtl0 = s.usartCtl0 := rfl
@[simp] theorem setPhase_rxBuf (ph : OpPhase) : (s.setPhase ph).rxBuf = s.rxBuf := rfl
@[simp] theorem setPhase_rxFull (ph : OpPhase) : (s.setPhase ph).rxFull = s.rxFull := rfl
@[simp] theorem setPhase_txBuf (ph : OpPhase) : (s.setPhase ph).txBuf = s.txBuf := rfl
@[simp] theorem setPhase_txFull (ph : OpPhase) : (s.setPhase ph).txFull = s.txFull := rfl
@[simp] theorem setPhase_err (ph : OpPhase) : (s.setPhase ph).err = s.err := rfl
@[simp] theorem setPhase_upc (ph : OpPhase) : (s.setPhase ph).upc = s.upc := rfl
@[simp] theorem setPhase_tmp (ph : OpPhase) : (s.setPhase ph).tmp = s.tmp := rfl
@[simp] theorem setPhase_ch (ph : OpPhase) : (s.setPhase ph).ch = s.ch := rfl
@[simp] theorem setPhase_fault (ph : OpPhase) : (s.setPhase ph).fault = s.fault := rfl
@[simp] theorem setPhase_refused (ph : OpPhase) : (s.setPhase ph).refused = s.refused := rfl
@[simp] theorem setPhase_rxHist (ph : OpPhase) : (s.setPhase ph).rxHist = s.rxHist := rfl
@[simp] theorem setPhase_txLog (ph : OpPhase) : (s.setPhase ph).txLog = s.txLog := rfl
@[simp] theorem setPhase_busLog (ph : OpPhase) : (s.setPhase ph).busLog = s.busLog := rfl
@[simp] theorem setPhase_params (ph : OpPhase) : (s.setPhase ph).params = s.params := rfl
@[simp] theorem setPhase_lineLog (ph : OpPhase) : (s.setPhase ph).lineLog = s.lineLog := rfl
@[simp] theorem setPhase_port (ph : OpPhase) : (s.setPhase ph).port = s.port := rfl
@[simp] theorem setPhase_phase (ph : OpPhase) : (s.setPhase ph).phase = ph := rfl
@[simp] theorem setPhase_sched (ph : OpPhase) : (s.setPhase ph).sched = s.sched := rfl
@[simp] theorem setPhase_draws (ph : OpPhase) : (s.setPhase ph).draws = s.draws := rfl

/-! ### setPort -/

@[simp] theorem setPort_rcuClken (l : List PortItem) : (s.setPort l).rcuClken = s.rcuClken := rfl
@[simp] theorem setPort_gpioCtl0 (l : List PortItem) : (s.setPort l).gpioCtl0 = s.gpioCtl0 := rfl
@[simp] theorem setPort_gpioCtl1 (l : List PortItem) : (s.setPort l).gpioCtl1 = s.gpioCtl1 := rfl
@[simp] theorem setPort_usartBaud (l : List PortItem) : (s.setPort l).usartBaud = s.usartBaud := rfl
@[simp] theorem setPort_usartCtl0 (l : List PortItem) : (s.setPort l).usartCtl0 = s.usartCtl0 := rfl
@[simp] theorem setPort_rxBuf (l : List PortItem) : (s.setPort l).rxBuf = s.rxBuf := rfl
@[simp] theorem setPort_rxFull (l : List PortItem) : (s.setPort l).rxFull = s.rxFull := rfl
@[simp] theorem setPort_txBuf (l : List PortItem) : (s.setPort l).txBuf = s.txBuf := rfl
@[simp] theorem setPort_txFull (l : List PortItem) : (s.setPort l).txFull = s.txFull := rfl
@[simp] theorem setPort_err (l : List PortItem) : (s.setPort l).err = s.err := rfl
@[simp] theorem setPort_upc (l : List PortItem) : (s.setPort l).upc = s.upc := rfl
@[simp] theorem setPort_tmp (l : List PortItem) : (s.setPort l).tmp = s.tmp := rfl
@[simp] theorem setPort_ch (l : List PortItem) : (s.setPort l).ch = s.ch := rfl
@[simp] theorem setPort_fault (l : List PortItem) : (s.setPort l).fault = s.fault := rfl
@[simp] theorem setPort_refused (l : List PortItem) : (s.setPort l).refused = s.refused := rfl
@[simp] theorem setPort_rxHist (l : List PortItem) : (s.setPort l).rxHist = s.rxHist := rfl
@[simp] theorem setPort_txLog (l : List PortItem) : (s.setPort l).txLog = s.txLog := rfl
@[simp] theorem setPort_busLog (l : List PortItem) : (s.setPort l).busLog = s.busLog := rfl
@[simp] theorem setPort_params (l : List PortItem) : (s.setPort l).params = s.params := rfl
@[simp] theorem setPort_lineLog (l : List PortItem) : (s.setPort l).lineLog = s.lineLog := rfl
@[simp] theorem setPort_port (l : List PortItem) : (s.setPort l).port = l := rfl
@[simp] theorem setPort_phase (l : List PortItem) : (s.setPort l).phase = s.phase := rfl
@[simp] theorem setPort_sched (l : List PortItem) : (s.setPort l).sched = s.sched := rfl
@[simp] theorem setPort_draws (l : List PortItem) : (s.setPort l).draws = s.draws := rfl

/-! ### setSched -/

@[simp] theorem setSched_rcuClken (l : List Turn) : (s.setSched l).rcuClken = s.rcuClken := rfl
@[simp] theorem setSched_gpioCtl0 (l : List Turn) : (s.setSched l).gpioCtl0 = s.gpioCtl0 := rfl
@[simp] theorem setSched_gpioCtl1 (l : List Turn) : (s.setSched l).gpioCtl1 = s.gpioCtl1 := rfl
@[simp] theorem setSched_usartBaud (l : List Turn) : (s.setSched l).usartBaud = s.usartBaud := rfl
@[simp] theorem setSched_usartCtl0 (l : List Turn) : (s.setSched l).usartCtl0 = s.usartCtl0 := rfl
@[simp] theorem setSched_rxBuf (l : List Turn) : (s.setSched l).rxBuf = s.rxBuf := rfl
@[simp] theorem setSched_rxFull (l : List Turn) : (s.setSched l).rxFull = s.rxFull := rfl
@[simp] theorem setSched_txBuf (l : List Turn) : (s.setSched l).txBuf = s.txBuf := rfl
@[simp] theorem setSched_txFull (l : List Turn) : (s.setSched l).txFull = s.txFull := rfl
@[simp] theorem setSched_err (l : List Turn) : (s.setSched l).err = s.err := rfl
@[simp] theorem setSched_upc (l : List Turn) : (s.setSched l).upc = s.upc := rfl
@[simp] theorem setSched_tmp (l : List Turn) : (s.setSched l).tmp = s.tmp := rfl
@[simp] theorem setSched_ch (l : List Turn) : (s.setSched l).ch = s.ch := rfl
@[simp] theorem setSched_fault (l : List Turn) : (s.setSched l).fault = s.fault := rfl
@[simp] theorem setSched_refused (l : List Turn) : (s.setSched l).refused = s.refused := rfl
@[simp] theorem setSched_rxHist (l : List Turn) : (s.setSched l).rxHist = s.rxHist := rfl
@[simp] theorem setSched_txLog (l : List Turn) : (s.setSched l).txLog = s.txLog := rfl
@[simp] theorem setSched_busLog (l : List Turn) : (s.setSched l).busLog = s.busLog := rfl
@[simp] theorem setSched_params (l : List Turn) : (s.setSched l).params = s.params := rfl
@[simp] theorem setSched_lineLog (l : List Turn) : (s.setSched l).lineLog = s.lineLog := rfl
@[simp] theorem setSched_port (l : List Turn) : (s.setSched l).port = s.port := rfl
@[simp] theorem setSched_phase (l : List Turn) : (s.setSched l).phase = s.phase := rfl
@[simp] theorem setSched_sched (l : List Turn) : (s.setSched l).sched = l := rfl
@[simp] theorem setSched_draws (l : List Turn) : (s.setSched l).draws = s.draws := rfl

/-! ### drawn -/

@[simp] theorem drawn_rcuClken : (s.drawn).rcuClken = s.rcuClken := rfl
@[simp] theorem drawn_gpioCtl0 : (s.drawn).gpioCtl0 = s.gpioCtl0 := rfl
@[simp] theorem drawn_gpioCtl1 : (s.drawn).gpioCtl1 = s.gpioCtl1 := rfl
@[simp] theorem drawn_usartBaud : (s.drawn).usartBaud = s.usartBaud := rfl
@[simp] theorem drawn_usartCtl0 : (s.drawn).usartCtl0 = s.usartCtl0 := rfl
@[simp] theorem drawn_rxBuf : (s.drawn).rxBuf = s.rxBuf := rfl
@[simp] theorem drawn_rxFull : (s.drawn).rxFull = s.rxFull := rfl
@[simp] theorem drawn_txBuf : (s.drawn).txBuf = s.txBuf := rfl
@[simp] theorem drawn_txFull : (s.drawn).txFull = s.txFull := rfl
@[simp] theorem drawn_err : (s.drawn).err = s.err := rfl
@[simp] theorem drawn_upc : (s.drawn).upc = s.upc := rfl
@[simp] theorem drawn_tmp : (s.drawn).tmp = s.tmp := rfl
@[simp] theorem drawn_ch : (s.drawn).ch = s.ch := rfl
@[simp] theorem drawn_fault : (s.drawn).fault = s.fault := rfl
@[simp] theorem drawn_refused : (s.drawn).refused = s.refused := rfl
@[simp] theorem drawn_rxHist : (s.drawn).rxHist = s.rxHist := rfl
@[simp] theorem drawn_txLog : (s.drawn).txLog = s.txLog := rfl
@[simp] theorem drawn_busLog : (s.drawn).busLog = s.busLog := rfl
@[simp] theorem drawn_params : (s.drawn).params = s.params := rfl
@[simp] theorem drawn_lineLog : (s.drawn).lineLog = s.lineLog := rfl
@[simp] theorem drawn_port : (s.drawn).port = s.port := rfl
@[simp] theorem drawn_phase : (s.drawn).phase = s.phase := rfl
@[simp] theorem drawn_sched : (s.drawn).sched = s.sched := rfl
@[simp] theorem drawn_draws : (s.drawn).draws = s.draws + 1 := rfl

/-! ### markRefused -/

@[simp] theorem markRefused_rcuClken (r : Refusal) : (s.markRefused r).rcuClken = s.rcuClken := rfl
@[simp] theorem markRefused_gpioCtl0 (r : Refusal) : (s.markRefused r).gpioCtl0 = s.gpioCtl0 := rfl
@[simp] theorem markRefused_gpioCtl1 (r : Refusal) : (s.markRefused r).gpioCtl1 = s.gpioCtl1 := rfl
@[simp] theorem markRefused_usartBaud (r : Refusal) : (s.markRefused r).usartBaud = s.usartBaud := rfl
@[simp] theorem markRefused_usartCtl0 (r : Refusal) : (s.markRefused r).usartCtl0 = s.usartCtl0 := rfl
@[simp] theorem markRefused_rxBuf (r : Refusal) : (s.markRefused r).rxBuf = s.rxBuf := rfl
@[simp] theorem markRefused_rxFull (r : Refusal) : (s.markRefused r).rxFull = s.rxFull := rfl
@[simp] theorem markRefused_txBuf (r : Refusal) : (s.markRefused r).txBuf = s.txBuf := rfl
@[simp] theorem markRefused_txFull (r : Refusal) : (s.markRefused r).txFull = s.txFull := rfl
@[simp] theorem markRefused_err (r : Refusal) : (s.markRefused r).err = s.err := rfl
@[simp] theorem markRefused_upc (r : Refusal) : (s.markRefused r).upc = s.upc := rfl
@[simp] theorem markRefused_tmp (r : Refusal) : (s.markRefused r).tmp = s.tmp := rfl
@[simp] theorem markRefused_ch (r : Refusal) : (s.markRefused r).ch = s.ch := rfl
@[simp] theorem markRefused_fault (r : Refusal) : (s.markRefused r).fault = s.fault := rfl
@[simp] theorem markRefused_refused (r : Refusal) : (s.markRefused r).refused = some r := rfl
@[simp] theorem markRefused_rxHist (r : Refusal) : (s.markRefused r).rxHist = s.rxHist := rfl
@[simp] theorem markRefused_txLog (r : Refusal) : (s.markRefused r).txLog = s.txLog := rfl
@[simp] theorem markRefused_busLog (r : Refusal) : (s.markRefused r).busLog = s.busLog := rfl
@[simp] theorem markRefused_params (r : Refusal) : (s.markRefused r).params = s.params := rfl
@[simp] theorem markRefused_lineLog (r : Refusal) : (s.markRefused r).lineLog = s.lineLog := rfl
@[simp] theorem markRefused_port (r : Refusal) : (s.markRefused r).port = s.port := rfl
@[simp] theorem markRefused_phase (r : Refusal) : (s.markRefused r).phase = s.phase := rfl
@[simp] theorem markRefused_sched (r : Refusal) : (s.markRefused r).sched = s.sched := rfl
@[simp] theorem markRefused_draws (r : Refusal) : (s.markRefused r).draws = s.draws := rfl

/-! ### drainRx -/

@[simp] theorem drainRx_rcuClken : (s.drainRx).rcuClken = s.rcuClken := rfl
@[simp] theorem drainRx_gpioCtl0 : (s.drainRx).gpioCtl0 = s.gpioCtl0 := rfl
@[simp] theorem drainRx_gpioCtl1 : (s.drainRx).gpioCtl1 = s.gpioCtl1 := rfl
@[simp] theorem drainRx_usartBaud : (s.drainRx).usartBaud = s.usartBaud := rfl
@[simp] theorem drainRx_usartCtl0 : (s.drainRx).usartCtl0 = s.usartCtl0 := rfl
@[simp] theorem drainRx_rxBuf : (s.drainRx).rxBuf = s.rxBuf := rfl
@[simp] theorem drainRx_rxFull : (s.drainRx).rxFull = false := rfl
@[simp] theorem drainRx_txBuf : (s.drainRx).txBuf = s.txBuf := rfl
@[simp] theorem drainRx_txFull : (s.drainRx).txFull = s.txFull := rfl
@[simp] theorem drainRx_err : (s.drainRx).err = s.err := rfl
@[simp] theorem drainRx_upc : (s.drainRx).upc = s.upc := rfl
@[simp] theorem drainRx_tmp : (s.drainRx).tmp = s.tmp := rfl
@[simp] theorem drainRx_ch : (s.drainRx).ch = s.ch := rfl
@[simp] theorem drainRx_fault : (s.drainRx).fault = s.fault := rfl
@[simp] theorem drainRx_refused : (s.drainRx).refused = s.refused := rfl
@[simp] theorem drainRx_rxHist : (s.drainRx).rxHist = s.rxHist := rfl
@[simp] theorem drainRx_txLog : (s.drainRx).txLog = s.txLog := rfl
@[simp] theorem drainRx_busLog : (s.drainRx).busLog = s.busLog := rfl
@[simp] theorem drainRx_params : (s.drainRx).params = s.params := rfl
@[simp] theorem drainRx_lineLog : (s.drainRx).lineLog = s.lineLog := rfl
@[simp] theorem drainRx_port : (s.drainRx).port = s.port := rfl
@[simp] theorem drainRx_phase : (s.drainRx).phase = s.phase := rfl
@[simp] theorem drainRx_sched : (s.drainRx).sched = s.sched := rfl
@[simp] theorem drainRx_draws : (s.drainRx).draws = s.draws := rfl

/-! ### fillRx -/

@[simp] theorem fillRx_rcuClken (c : Byte) : (s.fillRx c).rcuClken = s.rcuClken := rfl
@[simp] theorem fillRx_gpioCtl0 (c : Byte) : (s.fillRx c).gpioCtl0 = s.gpioCtl0 := rfl
@[simp] theorem fillRx_gpioCtl1 (c : Byte) : (s.fillRx c).gpioCtl1 = s.gpioCtl1 := rfl
@[simp] theorem fillRx_usartBaud (c : Byte) : (s.fillRx c).usartBaud = s.usartBaud := rfl
@[simp] theorem fillRx_usartCtl0 (c : Byte) : (s.fillRx c).usartCtl0 = s.usartCtl0 := rfl
@[simp] theorem fillRx_rxBuf (c : Byte) : (s.fillRx c).rxBuf = c.setWidth 9 := rfl
@[simp] theorem fillRx_rxFull (c : Byte) : (s.fillRx c).rxFull = true := rfl
@[simp] theorem fillRx_txBuf (c : Byte) : (s.fillRx c).txBuf = s.txBuf := rfl
@[simp] theorem fillRx_txFull (c : Byte) : (s.fillRx c).txFull = s.txFull := rfl
@[simp] theorem fillRx_err (c : Byte) : (s.fillRx c).err = s.err := rfl
@[simp] theorem fillRx_upc (c : Byte) : (s.fillRx c).upc = s.upc := rfl
@[simp] theorem fillRx_tmp (c : Byte) : (s.fillRx c).tmp = s.tmp := rfl
@[simp] theorem fillRx_ch (c : Byte) : (s.fillRx c).ch = s.ch := rfl
@[simp] theorem fillRx_fault (c : Byte) : (s.fillRx c).fault = s.fault := rfl
@[simp] theorem fillRx_refused (c : Byte) : (s.fillRx c).refused = s.refused := rfl
@[simp] theorem fillRx_rxHist (c : Byte) : (s.fillRx c).rxHist = s.rxHist := rfl
@[simp] theorem fillRx_txLog (c : Byte) : (s.fillRx c).txLog = s.txLog := rfl
@[simp] theorem fillRx_busLog (c : Byte) : (s.fillRx c).busLog = s.busLog := rfl
@[simp] theorem fillRx_params (c : Byte) : (s.fillRx c).params = s.params := rfl
@[simp] theorem fillRx_lineLog (c : Byte) : (s.fillRx c).lineLog = s.lineLog := rfl
@[simp] theorem fillRx_port (c : Byte) : (s.fillRx c).port = s.port := rfl
@[simp] theorem fillRx_phase (c : Byte) : (s.fillRx c).phase = s.phase := rfl
@[simp] theorem fillRx_sched (c : Byte) : (s.fillRx c).sched = s.sched := rfl
@[simp] theorem fillRx_draws (c : Byte) : (s.fillRx c).draws = s.draws := rfl

/-! ### fillTx -/

@[simp] theorem fillTx_rcuClken (v : Word) : (s.fillTx v).rcuClken = s.rcuClken := rfl
@[simp] theorem fillTx_gpioCtl0 (v : Word) : (s.fillTx v).gpioCtl0 = s.gpioCtl0 := rfl
@[simp] theorem fillTx_gpioCtl1 (v : Word) : (s.fillTx v).gpioCtl1 = s.gpioCtl1 := rfl
@[simp] theorem fillTx_usartBaud (v : Word) : (s.fillTx v).usartBaud = s.usartBaud := rfl
@[simp] theorem fillTx_usartCtl0 (v : Word) : (s.fillTx v).usartCtl0 = s.usartCtl0 := rfl
@[simp] theorem fillTx_rxBuf (v : Word) : (s.fillTx v).rxBuf = s.rxBuf := rfl
@[simp] theorem fillTx_rxFull (v : Word) : (s.fillTx v).rxFull = s.rxFull := rfl
@[simp] theorem fillTx_txBuf (v : Word) : (s.fillTx v).txBuf = v.extractLsb' 0 9 := rfl
@[simp] theorem fillTx_txFull (v : Word) : (s.fillTx v).txFull = true := rfl
@[simp] theorem fillTx_err (v : Word) : (s.fillTx v).err = s.err := rfl
@[simp] theorem fillTx_upc (v : Word) : (s.fillTx v).upc = s.upc := rfl
@[simp] theorem fillTx_tmp (v : Word) : (s.fillTx v).tmp = s.tmp := rfl
@[simp] theorem fillTx_ch (v : Word) : (s.fillTx v).ch = s.ch := rfl
@[simp] theorem fillTx_fault (v : Word) : (s.fillTx v).fault = s.fault := rfl
@[simp] theorem fillTx_refused (v : Word) : (s.fillTx v).refused = s.refused := rfl
@[simp] theorem fillTx_rxHist (v : Word) : (s.fillTx v).rxHist = s.rxHist := rfl
@[simp] theorem fillTx_txLog (v : Word) : (s.fillTx v).txLog = s.txLog := rfl
@[simp] theorem fillTx_busLog (v : Word) : (s.fillTx v).busLog = s.busLog := rfl
@[simp] theorem fillTx_params (v : Word) : (s.fillTx v).params = s.params := rfl
@[simp] theorem fillTx_lineLog (v : Word) : (s.fillTx v).lineLog = s.lineLog := rfl
@[simp] theorem fillTx_port (v : Word) : (s.fillTx v).port = s.port := rfl
@[simp] theorem fillTx_phase (v : Word) : (s.fillTx v).phase = s.phase := rfl
@[simp] theorem fillTx_sched (v : Word) : (s.fillTx v).sched = s.sched := rfl
@[simp] theorem fillTx_draws (v : Word) : (s.fillTx v).draws = s.draws := rfl

/-! ### drainTx -/

@[simp] theorem drainTx_rcuClken : (s.drainTx).rcuClken = s.rcuClken := rfl
@[simp] theorem drainTx_gpioCtl0 : (s.drainTx).gpioCtl0 = s.gpioCtl0 := rfl
@[simp] theorem drainTx_gpioCtl1 : (s.drainTx).gpioCtl1 = s.gpioCtl1 := rfl
@[simp] theorem drainTx_usartBaud : (s.drainTx).usartBaud = s.usartBaud := rfl
@[simp] theorem drainTx_usartCtl0 : (s.drainTx).usartCtl0 = s.usartCtl0 := rfl
@[simp] theorem drainTx_rxBuf : (s.drainTx).rxBuf = s.rxBuf := rfl
@[simp] theorem drainTx_rxFull : (s.drainTx).rxFull = s.rxFull := rfl
@[simp] theorem drainTx_txBuf : (s.drainTx).txBuf = s.txBuf := rfl
@[simp] theorem drainTx_txFull : (s.drainTx).txFull = false := rfl
@[simp] theorem drainTx_err : (s.drainTx).err = s.err := rfl
@[simp] theorem drainTx_upc : (s.drainTx).upc = s.upc := rfl
@[simp] theorem drainTx_tmp : (s.drainTx).tmp = s.tmp := rfl
@[simp] theorem drainTx_ch : (s.drainTx).ch = s.ch := rfl
@[simp] theorem drainTx_fault : (s.drainTx).fault = s.fault := rfl
@[simp] theorem drainTx_refused : (s.drainTx).refused = s.refused := rfl
@[simp] theorem drainTx_rxHist : (s.drainTx).rxHist = s.rxHist := rfl
@[simp] theorem drainTx_txLog : (s.drainTx).txLog = s.txLog := rfl
@[simp] theorem drainTx_busLog : (s.drainTx).busLog = s.busLog := rfl
@[simp] theorem drainTx_params : (s.drainTx).params = s.params := rfl
@[simp] theorem drainTx_lineLog : (s.drainTx).lineLog = s.lineLog := rfl
@[simp] theorem drainTx_port : (s.drainTx).port = s.port := rfl
@[simp] theorem drainTx_phase : (s.drainTx).phase = s.phase := rfl
@[simp] theorem drainTx_sched : (s.drainTx).sched = s.sched := rfl
@[simp] theorem drainTx_draws : (s.drainTx).draws = s.draws := rfl

/-! ### setErr -/

@[simp] theorem setErr_rcuClken (e : ErrBits) : (s.setErr e).rcuClken = s.rcuClken := rfl
@[simp] theorem setErr_gpioCtl0 (e : ErrBits) : (s.setErr e).gpioCtl0 = s.gpioCtl0 := rfl
@[simp] theorem setErr_gpioCtl1 (e : ErrBits) : (s.setErr e).gpioCtl1 = s.gpioCtl1 := rfl
@[simp] theorem setErr_usartBaud (e : ErrBits) : (s.setErr e).usartBaud = s.usartBaud := rfl
@[simp] theorem setErr_usartCtl0 (e : ErrBits) : (s.setErr e).usartCtl0 = s.usartCtl0 := rfl
@[simp] theorem setErr_rxBuf (e : ErrBits) : (s.setErr e).rxBuf = s.rxBuf := rfl
@[simp] theorem setErr_rxFull (e : ErrBits) : (s.setErr e).rxFull = s.rxFull := rfl
@[simp] theorem setErr_txBuf (e : ErrBits) : (s.setErr e).txBuf = s.txBuf := rfl
@[simp] theorem setErr_txFull (e : ErrBits) : (s.setErr e).txFull = s.txFull := rfl
@[simp] theorem setErr_err (e : ErrBits) : (s.setErr e).err = e := rfl
@[simp] theorem setErr_upc (e : ErrBits) : (s.setErr e).upc = s.upc := rfl
@[simp] theorem setErr_tmp (e : ErrBits) : (s.setErr e).tmp = s.tmp := rfl
@[simp] theorem setErr_ch (e : ErrBits) : (s.setErr e).ch = s.ch := rfl
@[simp] theorem setErr_fault (e : ErrBits) : (s.setErr e).fault = s.fault := rfl
@[simp] theorem setErr_refused (e : ErrBits) : (s.setErr e).refused = s.refused := rfl
@[simp] theorem setErr_rxHist (e : ErrBits) : (s.setErr e).rxHist = s.rxHist := rfl
@[simp] theorem setErr_txLog (e : ErrBits) : (s.setErr e).txLog = s.txLog := rfl
@[simp] theorem setErr_busLog (e : ErrBits) : (s.setErr e).busLog = s.busLog := rfl
@[simp] theorem setErr_params (e : ErrBits) : (s.setErr e).params = s.params := rfl
@[simp] theorem setErr_lineLog (e : ErrBits) : (s.setErr e).lineLog = s.lineLog := rfl
@[simp] theorem setErr_port (e : ErrBits) : (s.setErr e).port = s.port := rfl
@[simp] theorem setErr_phase (e : ErrBits) : (s.setErr e).phase = s.phase := rfl
@[simp] theorem setErr_sched (e : ErrBits) : (s.setErr e).sched = s.sched := rfl
@[simp] theorem setErr_draws (e : ErrBits) : (s.setErr e).draws = s.draws := rfl

/-! ### logRx -/

@[simp] theorem logRx_rcuClken (e : RxEvent) : (s.logRx e).rcuClken = s.rcuClken := rfl
@[simp] theorem logRx_gpioCtl0 (e : RxEvent) : (s.logRx e).gpioCtl0 = s.gpioCtl0 := rfl
@[simp] theorem logRx_gpioCtl1 (e : RxEvent) : (s.logRx e).gpioCtl1 = s.gpioCtl1 := rfl
@[simp] theorem logRx_usartBaud (e : RxEvent) : (s.logRx e).usartBaud = s.usartBaud := rfl
@[simp] theorem logRx_usartCtl0 (e : RxEvent) : (s.logRx e).usartCtl0 = s.usartCtl0 := rfl
@[simp] theorem logRx_rxBuf (e : RxEvent) : (s.logRx e).rxBuf = s.rxBuf := rfl
@[simp] theorem logRx_rxFull (e : RxEvent) : (s.logRx e).rxFull = s.rxFull := rfl
@[simp] theorem logRx_txBuf (e : RxEvent) : (s.logRx e).txBuf = s.txBuf := rfl
@[simp] theorem logRx_txFull (e : RxEvent) : (s.logRx e).txFull = s.txFull := rfl
@[simp] theorem logRx_err (e : RxEvent) : (s.logRx e).err = s.err := rfl
@[simp] theorem logRx_upc (e : RxEvent) : (s.logRx e).upc = s.upc := rfl
@[simp] theorem logRx_tmp (e : RxEvent) : (s.logRx e).tmp = s.tmp := rfl
@[simp] theorem logRx_ch (e : RxEvent) : (s.logRx e).ch = s.ch := rfl
@[simp] theorem logRx_fault (e : RxEvent) : (s.logRx e).fault = s.fault := rfl
@[simp] theorem logRx_refused (e : RxEvent) : (s.logRx e).refused = s.refused := rfl
@[simp] theorem logRx_rxHist (e : RxEvent) : (s.logRx e).rxHist = s.rxHist ++ [e] := rfl
@[simp] theorem logRx_txLog (e : RxEvent) : (s.logRx e).txLog = s.txLog := rfl
@[simp] theorem logRx_busLog (e : RxEvent) : (s.logRx e).busLog = s.busLog := rfl
@[simp] theorem logRx_params (e : RxEvent) : (s.logRx e).params = s.params := rfl
@[simp] theorem logRx_lineLog (e : RxEvent) : (s.logRx e).lineLog = s.lineLog := rfl
@[simp] theorem logRx_port (e : RxEvent) : (s.logRx e).port = s.port := rfl
@[simp] theorem logRx_phase (e : RxEvent) : (s.logRx e).phase = s.phase := rfl
@[simp] theorem logRx_sched (e : RxEvent) : (s.logRx e).sched = s.sched := rfl
@[simp] theorem logRx_draws (e : RxEvent) : (s.logRx e).draws = s.draws := rfl

/-! ### logTx -/

@[simp] theorem logTx_rcuClken (e : TxEvent) : (s.logTx e).rcuClken = s.rcuClken := rfl
@[simp] theorem logTx_gpioCtl0 (e : TxEvent) : (s.logTx e).gpioCtl0 = s.gpioCtl0 := rfl
@[simp] theorem logTx_gpioCtl1 (e : TxEvent) : (s.logTx e).gpioCtl1 = s.gpioCtl1 := rfl
@[simp] theorem logTx_usartBaud (e : TxEvent) : (s.logTx e).usartBaud = s.usartBaud := rfl
@[simp] theorem logTx_usartCtl0 (e : TxEvent) : (s.logTx e).usartCtl0 = s.usartCtl0 := rfl
@[simp] theorem logTx_rxBuf (e : TxEvent) : (s.logTx e).rxBuf = s.rxBuf := rfl
@[simp] theorem logTx_rxFull (e : TxEvent) : (s.logTx e).rxFull = s.rxFull := rfl
@[simp] theorem logTx_txBuf (e : TxEvent) : (s.logTx e).txBuf = s.txBuf := rfl
@[simp] theorem logTx_txFull (e : TxEvent) : (s.logTx e).txFull = s.txFull := rfl
@[simp] theorem logTx_err (e : TxEvent) : (s.logTx e).err = s.err := rfl
@[simp] theorem logTx_upc (e : TxEvent) : (s.logTx e).upc = s.upc := rfl
@[simp] theorem logTx_tmp (e : TxEvent) : (s.logTx e).tmp = s.tmp := rfl
@[simp] theorem logTx_ch (e : TxEvent) : (s.logTx e).ch = s.ch := rfl
@[simp] theorem logTx_fault (e : TxEvent) : (s.logTx e).fault = s.fault := rfl
@[simp] theorem logTx_refused (e : TxEvent) : (s.logTx e).refused = s.refused := rfl
@[simp] theorem logTx_rxHist (e : TxEvent) : (s.logTx e).rxHist = s.rxHist := rfl
@[simp] theorem logTx_txLog (e : TxEvent) : (s.logTx e).txLog = s.txLog ++ [e] := rfl
@[simp] theorem logTx_busLog (e : TxEvent) : (s.logTx e).busLog = s.busLog := rfl
@[simp] theorem logTx_params (e : TxEvent) : (s.logTx e).params = s.params := rfl
@[simp] theorem logTx_lineLog (e : TxEvent) : (s.logTx e).lineLog = s.lineLog := rfl
@[simp] theorem logTx_port (e : TxEvent) : (s.logTx e).port = s.port := rfl
@[simp] theorem logTx_phase (e : TxEvent) : (s.logTx e).phase = s.phase := rfl
@[simp] theorem logTx_sched (e : TxEvent) : (s.logTx e).sched = s.sched := rfl
@[simp] theorem logTx_draws (e : TxEvent) : (s.logTx e).draws = s.draws := rfl

/-! ### logLine -/

@[simp] theorem logLine_rcuClken (e : TxEvent) : (s.logLine e).rcuClken = s.rcuClken := rfl
@[simp] theorem logLine_gpioCtl0 (e : TxEvent) : (s.logLine e).gpioCtl0 = s.gpioCtl0 := rfl
@[simp] theorem logLine_gpioCtl1 (e : TxEvent) : (s.logLine e).gpioCtl1 = s.gpioCtl1 := rfl
@[simp] theorem logLine_usartBaud (e : TxEvent) : (s.logLine e).usartBaud = s.usartBaud := rfl
@[simp] theorem logLine_usartCtl0 (e : TxEvent) : (s.logLine e).usartCtl0 = s.usartCtl0 := rfl
@[simp] theorem logLine_rxBuf (e : TxEvent) : (s.logLine e).rxBuf = s.rxBuf := rfl
@[simp] theorem logLine_rxFull (e : TxEvent) : (s.logLine e).rxFull = s.rxFull := rfl
@[simp] theorem logLine_txBuf (e : TxEvent) : (s.logLine e).txBuf = s.txBuf := rfl
@[simp] theorem logLine_txFull (e : TxEvent) : (s.logLine e).txFull = s.txFull := rfl
@[simp] theorem logLine_err (e : TxEvent) : (s.logLine e).err = s.err := rfl
@[simp] theorem logLine_upc (e : TxEvent) : (s.logLine e).upc = s.upc := rfl
@[simp] theorem logLine_tmp (e : TxEvent) : (s.logLine e).tmp = s.tmp := rfl
@[simp] theorem logLine_ch (e : TxEvent) : (s.logLine e).ch = s.ch := rfl
@[simp] theorem logLine_fault (e : TxEvent) : (s.logLine e).fault = s.fault := rfl
@[simp] theorem logLine_refused (e : TxEvent) : (s.logLine e).refused = s.refused := rfl
@[simp] theorem logLine_rxHist (e : TxEvent) : (s.logLine e).rxHist = s.rxHist := rfl
@[simp] theorem logLine_txLog (e : TxEvent) : (s.logLine e).txLog = s.txLog := rfl
@[simp] theorem logLine_busLog (e : TxEvent) : (s.logLine e).busLog = s.busLog := rfl
@[simp] theorem logLine_params (e : TxEvent) : (s.logLine e).params = s.params := rfl
@[simp] theorem logLine_lineLog (e : TxEvent) : (s.logLine e).lineLog = s.lineLog ++ [e] := rfl
@[simp] theorem logLine_port (e : TxEvent) : (s.logLine e).port = s.port := rfl
@[simp] theorem logLine_phase (e : TxEvent) : (s.logLine e).phase = s.phase := rfl
@[simp] theorem logLine_sched (e : TxEvent) : (s.logLine e).sched = s.sched := rfl
@[simp] theorem logLine_draws (e : TxEvent) : (s.logLine e).draws = s.draws := rfl

/-! ### raise -/

@[simp] theorem raise_rcuClken (k : ErrorKind) (u : Option Nibble) (a : Option Word) : (raise k u a s).rcuClken = s.rcuClken := rfl
@[simp] theorem raise_gpioCtl0 (k : ErrorKind) (u : Option Nibble) (a : Option Word) : (raise k u a s).gpioCtl0 = s.gpioCtl0 := rfl
@[simp] theorem raise_gpioCtl1 (k : ErrorKind) (u : Option Nibble) (a : Option Word) : (raise k u a s).gpioCtl1 = s.gpioCtl1 := rfl
@[simp] theorem raise_usartBaud (k : ErrorKind) (u : Option Nibble) (a : Option Word) : (raise k u a s).usartBaud = s.usartBaud := rfl
@[simp] theorem raise_usartCtl0 (k : ErrorKind) (u : Option Nibble) (a : Option Word) : (raise k u a s).usartCtl0 = s.usartCtl0 := rfl
@[simp] theorem raise_rxBuf (k : ErrorKind) (u : Option Nibble) (a : Option Word) : (raise k u a s).rxBuf = s.rxBuf := rfl
@[simp] theorem raise_rxFull (k : ErrorKind) (u : Option Nibble) (a : Option Word) : (raise k u a s).rxFull = s.rxFull := rfl
@[simp] theorem raise_txBuf (k : ErrorKind) (u : Option Nibble) (a : Option Word) : (raise k u a s).txBuf = s.txBuf := rfl
@[simp] theorem raise_txFull (k : ErrorKind) (u : Option Nibble) (a : Option Word) : (raise k u a s).txFull = s.txFull := rfl
@[simp] theorem raise_err (k : ErrorKind) (u : Option Nibble) (a : Option Word) : (raise k u a s).err = s.err := rfl
@[simp] theorem raise_upc (k : ErrorKind) (u : Option Nibble) (a : Option Word) : (raise k u a s).upc = s.upc := rfl
@[simp] theorem raise_tmp (k : ErrorKind) (u : Option Nibble) (a : Option Word) : (raise k u a s).tmp = s.tmp := rfl
@[simp] theorem raise_ch (k : ErrorKind) (u : Option Nibble) (a : Option Word) : (raise k u a s).ch = s.ch := rfl
@[simp] theorem raise_fault (k : ErrorKind) (u : Option Nibble) (a : Option Word) : (raise k u a s).fault = s.fault.or (some ⟨k, u, a⟩) := rfl
@[simp] theorem raise_refused (k : ErrorKind) (u : Option Nibble) (a : Option Word) : (raise k u a s).refused = s.refused := rfl
@[simp] theorem raise_rxHist (k : ErrorKind) (u : Option Nibble) (a : Option Word) : (raise k u a s).rxHist = s.rxHist := rfl
@[simp] theorem raise_txLog (k : ErrorKind) (u : Option Nibble) (a : Option Word) : (raise k u a s).txLog = s.txLog := rfl
@[simp] theorem raise_busLog (k : ErrorKind) (u : Option Nibble) (a : Option Word) : (raise k u a s).busLog = s.busLog := rfl
@[simp] theorem raise_params (k : ErrorKind) (u : Option Nibble) (a : Option Word) : (raise k u a s).params = s.params := rfl
@[simp] theorem raise_lineLog (k : ErrorKind) (u : Option Nibble) (a : Option Word) : (raise k u a s).lineLog = s.lineLog := rfl
@[simp] theorem raise_port (k : ErrorKind) (u : Option Nibble) (a : Option Word) : (raise k u a s).port = s.port := rfl
@[simp] theorem raise_phase (k : ErrorKind) (u : Option Nibble) (a : Option Word) : (raise k u a s).phase = s.phase := rfl
@[simp] theorem raise_sched (k : ErrorKind) (u : Option Nibble) (a : Option Word) : (raise k u a s).sched = s.sched := rfl
@[simp] theorem raise_draws (k : ErrorKind) (u : Option Nibble) (a : Option Word) : (raise k u a s).draws = s.draws := rfl

/-! ### raiseClockNotReady -/

@[simp] theorem raiseClockNotReady_rcuClken (u : Option Nibble) (a : Word) : (raiseClockNotReady u a s).rcuClken = s.rcuClken := rfl
@[simp] theorem raiseClockNotReady_gpioCtl0 (u : Option Nibble) (a : Word) : (raiseClockNotReady u a s).gpioCtl0 = s.gpioCtl0 := rfl
@[simp] theorem raiseClockNotReady_gpioCtl1 (u : Option Nibble) (a : Word) : (raiseClockNotReady u a s).gpioCtl1 = s.gpioCtl1 := rfl
@[simp] theorem raiseClockNotReady_usartBaud (u : Option Nibble) (a : Word) : (raiseClockNotReady u a s).usartBaud = s.usartBaud := rfl
@[simp] theorem raiseClockNotReady_usartCtl0 (u : Option Nibble) (a : Word) : (raiseClockNotReady u a s).usartCtl0 = s.usartCtl0 := rfl
@[simp] theorem raiseClockNotReady_rxBuf (u : Option Nibble) (a : Word) : (raiseClockNotReady u a s).rxBuf = s.rxBuf := rfl
@[simp] theorem raiseClockNotReady_rxFull (u : Option Nibble) (a : Word) : (raiseClockNotReady u a s).rxFull = s.rxFull := rfl
@[simp] theorem raiseClockNotReady_txBuf (u : Option Nibble) (a : Word) : (raiseClockNotReady u a s).txBuf = s.txBuf := rfl
@[simp] theorem raiseClockNotReady_txFull (u : Option Nibble) (a : Word) : (raiseClockNotReady u a s).txFull = s.txFull := rfl
@[simp] theorem raiseClockNotReady_err (u : Option Nibble) (a : Word) : (raiseClockNotReady u a s).err = { s.err with clock := true } := rfl
@[simp] theorem raiseClockNotReady_upc (u : Option Nibble) (a : Word) : (raiseClockNotReady u a s).upc = s.upc := rfl
@[simp] theorem raiseClockNotReady_tmp (u : Option Nibble) (a : Word) : (raiseClockNotReady u a s).tmp = s.tmp := rfl
@[simp] theorem raiseClockNotReady_ch (u : Option Nibble) (a : Word) : (raiseClockNotReady u a s).ch = s.ch := rfl
@[simp] theorem raiseClockNotReady_fault (u : Option Nibble) (a : Word) : (raiseClockNotReady u a s).fault = s.fault.or (some ⟨.clockNotReady, u, some a⟩) := rfl
@[simp] theorem raiseClockNotReady_refused (u : Option Nibble) (a : Word) : (raiseClockNotReady u a s).refused = s.refused := rfl
@[simp] theorem raiseClockNotReady_rxHist (u : Option Nibble) (a : Word) : (raiseClockNotReady u a s).rxHist = s.rxHist := rfl
@[simp] theorem raiseClockNotReady_txLog (u : Option Nibble) (a : Word) : (raiseClockNotReady u a s).txLog = s.txLog := rfl
@[simp] theorem raiseClockNotReady_busLog (u : Option Nibble) (a : Word) : (raiseClockNotReady u a s).busLog = s.busLog := rfl
@[simp] theorem raiseClockNotReady_params (u : Option Nibble) (a : Word) : (raiseClockNotReady u a s).params = s.params := rfl
@[simp] theorem raiseClockNotReady_lineLog (u : Option Nibble) (a : Word) : (raiseClockNotReady u a s).lineLog = s.lineLog := rfl
@[simp] theorem raiseClockNotReady_port (u : Option Nibble) (a : Word) : (raiseClockNotReady u a s).port = s.port := rfl
@[simp] theorem raiseClockNotReady_phase (u : Option Nibble) (a : Word) : (raiseClockNotReady u a s).phase = s.phase := rfl
@[simp] theorem raiseClockNotReady_sched (u : Option Nibble) (a : Word) : (raiseClockNotReady u a s).sched = s.sched := rfl
@[simp] theorem raiseClockNotReady_draws (u : Option Nibble) (a : Word) : (raiseClockNotReady u a s).draws = s.draws := rfl

/-! ### resetStep -/

@[simp] theorem resetStep_rcuClken : (resetStep s).rcuClken = 0#32 := rfl
@[simp] theorem resetStep_gpioCtl0 : (resetStep s).gpioCtl0 = s.params.gpioCtl0Reset := rfl
@[simp] theorem resetStep_gpioCtl1 : (resetStep s).gpioCtl1 = s.params.gpioCtl1Reset := rfl
@[simp] theorem resetStep_usartBaud : (resetStep s).usartBaud = s.params.usartBaudReset := rfl
@[simp] theorem resetStep_usartCtl0 : (resetStep s).usartCtl0 = 0#32 := rfl
@[simp] theorem resetStep_rxBuf : (resetStep s).rxBuf = 0#9 := rfl
@[simp] theorem resetStep_rxFull : (resetStep s).rxFull = false := rfl
@[simp] theorem resetStep_txBuf : (resetStep s).txBuf = 0#9 := rfl
@[simp] theorem resetStep_txFull : (resetStep s).txFull = false := rfl
@[simp] theorem resetStep_err : (resetStep s).err = ⟨false, false, false, false⟩ := rfl
@[simp] theorem resetStep_upc : (resetStep s).upc = 0#4 := rfl
@[simp] theorem resetStep_tmp : (resetStep s).tmp = 0#32 := rfl
@[simp] theorem resetStep_ch : (resetStep s).ch = 0#32 := rfl
@[simp] theorem resetStep_fault : (resetStep s).fault = none := rfl
@[simp] theorem resetStep_refused : (resetStep s).refused = none := rfl
@[simp] theorem resetStep_rxHist : (resetStep s).rxHist = s.rxHist ++ [.reset] := rfl
@[simp] theorem resetStep_txLog : (resetStep s).txLog = s.txLog ++ [.reset] := rfl
@[simp] theorem resetStep_busLog : (resetStep s).busLog = s.busLog ++ [.reset] := rfl
@[simp] theorem resetStep_params : (resetStep s).params = s.params := rfl
@[simp] theorem resetStep_lineLog : (resetStep s).lineLog = s.lineLog ++ [.reset] := rfl
@[simp] theorem resetStep_port : (resetStep s).port = [] := rfl
@[simp] theorem resetStep_phase : (resetStep s).phase = .idle := rfl
@[simp] theorem resetStep_sched : (resetStep s).sched = s.sched := rfl
@[simp] theorem resetStep_draws : (resetStep s).draws = s.draws := rfl

end Sys2Proof.Machine
end

