-- ==== Sys2Proof/Laws/Ops.lean ====
section
/-! SUPPORT. What each shared operation can do, said once: the running check, the two bus primitives, the effects of a
transaction, the PHY agents. Later proofs cite these and do not unfold the operations. -/

namespace Sys2Proof.Machine

variable (s : State)

/-! ### The running check -/

theorem whenRunning_eq {s : State} (h : s.refused = none ∧ s.fault = none) (k : Result) : whenRunning s k = k := by
  simp [whenRunning, h.1, h.2]

theorem whenRunning_next {s t : State} {k : Result} (h : whenRunning s k = .next t) :
    (s.refused = none ∧ s.fault = none) ∧ k = .next t := by
  unfold whenRunning at h
  split at h <;> simp_all

theorem whenRunning_halted {s : State} {f : FaultRecord} (hr : s.refused = none) (hf : s.fault = some f) (k : Result) :
    whenRunning s k = .fault (.halted f) := by
  simp [whenRunning, hr, hf]

theorem whenRunning_refused {s : State} {r : Refusal} (hr : s.refused = some r) (k : Result) :
    whenRunning s k = .refused r := by
  simp [whenRunning, hr]

/-! ### The bus primitives -/

theorem busRead_open {r : Reg} {s : State} (h : gateOpen r s = true) (u : Option Nibble) (k : Word → State → Result) :
    busRead u r s k = k (readValue r s) ((readEffect r s).logBus (.read (addrOf s.params r) (readValue r s))) := by
  simp [busRead, h]

theorem busRead_closed {r : Reg} {s : State} (h : gateOpen r s = false) (u : Option Nibble) (k : Word → State → Result) :
    busRead u r s k = .next (raiseClockNotReady u (addrOf s.params r) s) := by
  simp [busRead, h]

theorem busRead_next {u : Option Nibble} {r : Reg} {s t : State} {k : Word → State → Result}
    (h : busRead u r s k = .next t) :
    (gateOpen r s = false ∧ t = raiseClockNotReady u (addrOf s.params r) s) ∨
      (gateOpen r s = true ∧
        k (readValue r s) ((readEffect r s).logBus (.read (addrOf s.params r) (readValue r s))) = .next t) := by
  unfold busRead at h
  split at h
  · exact .inr ⟨by assumption, h⟩
  · exact .inl ⟨by simp_all, by simpa using h.symm⟩

theorem busWrite_open {r : Reg} {v : Word} {s : State} (h : gateOpen r s = true) (hw : writeRefusal r v s = none)
    (u : Option Nibble) (k : State → Result) :
    busWrite u r v s k = k ((writeEffect r v s).logBus (.write (addrOf s.params r) v)) := by
  simp [busWrite, h, hw]

theorem busWrite_illegal {r : Reg} {v : Word} {s : State} {e : Refusal} (h : gateOpen r s = true)
    (hw : writeRefusal r v s = some e) (u : Option Nibble) (k : State → Result) :
    busWrite u r v s k = .refused e := by
  simp [busWrite, h, hw]

theorem busWrite_closed {r : Reg} {s : State} (h : gateOpen r s = false) (v : Word) (u : Option Nibble)
    (k : State → Result) :
    busWrite u r v s k = .next (raiseClockNotReady u (addrOf s.params r) s) := by
  simp [busWrite, h]

theorem busWrite_next {u : Option Nibble} {r : Reg} {v : Word} {s t : State} {k : State → Result}
    (h : busWrite u r v s k = .next t) :
    (gateOpen r s = false ∧ t = raiseClockNotReady u (addrOf s.params r) s) ∨
      (gateOpen r s = true ∧ writeRefusal r v s = none ∧
        k ((writeEffect r v s).logBus (.write (addrOf s.params r) v)) = .next t) := by
  unfold busWrite at h
  split at h
  · split at h
    · cases h
    · exact .inr ⟨by assumption, by assumption, h⟩
  · exact .inl ⟨by simp_all, by simpa using h.symm⟩

/-! ### The effects of a transaction -/

@[simp] theorem readEffect_rcuClken (r : Reg) : (readEffect r s).rcuClken = s.rcuClken := by
  cases r <;> simp only [readEffect] <;> first | rfl | (split <;> rfl)
@[simp] theorem readEffect_gpioCtl0 (r : Reg) : (readEffect r s).gpioCtl0 = s.gpioCtl0 := by
  cases r <;> simp only [readEffect] <;> first | rfl | (split <;> rfl)
@[simp] theorem readEffect_gpioCtl1 (r : Reg) : (readEffect r s).gpioCtl1 = s.gpioCtl1 := by
  cases r <;> simp only [readEffect] <;> first | rfl | (split <;> rfl)
@[simp] theorem readEffect_usartBaud (r : Reg) : (readEffect r s).usartBaud = s.usartBaud := by
  cases r <;> simp only [readEffect] <;> first | rfl | (split <;> rfl)
@[simp] theorem readEffect_usartCtl0 (r : Reg) : (readEffect r s).usartCtl0 = s.usartCtl0 := by
  cases r <;> simp only [readEffect] <;> first | rfl | (split <;> rfl)
@[simp] theorem readEffect_rxBuf (r : Reg) : (readEffect r s).rxBuf = s.rxBuf := by
  cases r <;> simp only [readEffect] <;> first | rfl | (split <;> rfl)
@[simp] theorem readEffect_txBuf (r : Reg) : (readEffect r s).txBuf = s.txBuf := by
  cases r <;> simp only [readEffect] <;> first | rfl | (split <;> rfl)
@[simp] theorem readEffect_txFull (r : Reg) : (readEffect r s).txFull = s.txFull := by
  cases r <;> simp only [readEffect] <;> first | rfl | (split <;> rfl)
@[simp] theorem readEffect_err (r : Reg) : (readEffect r s).err = s.err := by
  cases r <;> simp only [readEffect] <;> first | rfl | (split <;> rfl)
@[simp] theorem readEffect_upc (r : Reg) : (readEffect r s).upc = s.upc := by
  cases r <;> simp only [readEffect] <;> first | rfl | (split <;> rfl)
@[simp] theorem readEffect_tmp (r : Reg) : (readEffect r s).tmp = s.tmp := by
  cases r <;> simp only [readEffect] <;> first | rfl | (split <;> rfl)
@[simp] theorem readEffect_ch (r : Reg) : (readEffect r s).ch = s.ch := by
  cases r <;> simp only [readEffect] <;> first | rfl | (split <;> rfl)
@[simp] theorem readEffect_fault (r : Reg) : (readEffect r s).fault = s.fault := by
  cases r <;> simp only [readEffect] <;> first | rfl | (split <;> rfl)
@[simp] theorem readEffect_refused (r : Reg) : (readEffect r s).refused = s.refused := by
  cases r <;> simp only [readEffect] <;> first | rfl | (split <;> rfl)
@[simp] theorem readEffect_rxHist (r : Reg) : (readEffect r s).rxHist = s.rxHist := by
  cases r <;> simp only [readEffect] <;> first | rfl | (split <;> rfl)
@[simp] theorem readEffect_txLog (r : Reg) : (readEffect r s).txLog = s.txLog := by
  cases r <;> simp only [readEffect] <;> first | rfl | (split <;> rfl)
@[simp] theorem readEffect_busLog (r : Reg) : (readEffect r s).busLog = s.busLog := by
  cases r <;> simp only [readEffect] <;> first | rfl | (split <;> rfl)
@[simp] theorem readEffect_params (r : Reg) : (readEffect r s).params = s.params := by
  cases r <;> simp only [readEffect] <;> first | rfl | (split <;> rfl)
@[simp] theorem readEffect_lineLog (r : Reg) : (readEffect r s).lineLog = s.lineLog := by
  cases r <;> simp only [readEffect] <;> first | rfl | (split <;> rfl)
@[simp] theorem readEffect_port (r : Reg) : (readEffect r s).port = s.port := by
  cases r <;> simp only [readEffect] <;> first | rfl | (split <;> rfl)
@[simp] theorem readEffect_phase (r : Reg) : (readEffect r s).phase = s.phase := by
  cases r <;> simp only [readEffect] <;> first | rfl | (split <;> rfl)
@[simp] theorem readEffect_sched (r : Reg) : (readEffect r s).sched = s.sched := by
  cases r <;> simp only [readEffect] <;> first | rfl | (split <;> rfl)
@[simp] theorem writeEffect_rxBuf (r : Reg) (v : Word) : (writeEffect r v s).rxBuf = s.rxBuf := by
  cases r <;> rfl
@[simp] theorem writeEffect_rxFull (r : Reg) (v : Word) : (writeEffect r v s).rxFull = s.rxFull := by
  cases r <;> rfl
@[simp] theorem writeEffect_err (r : Reg) (v : Word) : (writeEffect r v s).err = s.err := by
  cases r <;> rfl
@[simp] theorem writeEffect_upc (r : Reg) (v : Word) : (writeEffect r v s).upc = s.upc := by
  cases r <;> rfl
@[simp] theorem writeEffect_tmp (r : Reg) (v : Word) : (writeEffect r v s).tmp = s.tmp := by
  cases r <;> rfl
@[simp] theorem writeEffect_ch (r : Reg) (v : Word) : (writeEffect r v s).ch = s.ch := by
  cases r <;> rfl
@[simp] theorem writeEffect_fault (r : Reg) (v : Word) : (writeEffect r v s).fault = s.fault := by
  cases r <;> rfl
@[simp] theorem writeEffect_refused (r : Reg) (v : Word) : (writeEffect r v s).refused = s.refused := by
  cases r <;> rfl
@[simp] theorem writeEffect_rxHist (r : Reg) (v : Word) : (writeEffect r v s).rxHist = s.rxHist := by
  cases r <;> rfl
@[simp] theorem writeEffect_txLog (r : Reg) (v : Word) : (writeEffect r v s).txLog = s.txLog := by
  cases r <;> rfl
@[simp] theorem writeEffect_busLog (r : Reg) (v : Word) : (writeEffect r v s).busLog = s.busLog := by
  cases r <;> rfl
@[simp] theorem writeEffect_params (r : Reg) (v : Word) : (writeEffect r v s).params = s.params := by
  cases r <;> rfl
@[simp] theorem writeEffect_lineLog (r : Reg) (v : Word) : (writeEffect r v s).lineLog = s.lineLog := by
  cases r <;> rfl
@[simp] theorem writeEffect_port (r : Reg) (v : Word) : (writeEffect r v s).port = s.port := by
  cases r <;> rfl
@[simp] theorem writeEffect_phase (r : Reg) (v : Word) : (writeEffect r v s).phase = s.phase := by
  cases r <;> rfl
@[simp] theorem writeEffect_sched (r : Reg) (v : Word) : (writeEffect r v s).sched = s.sched := by
  cases r <;> rfl
@[simp] theorem writeEffect_draws (r : Reg) (v : Word) : (writeEffect r v s).draws = s.draws := by
  cases r <;> rfl

/-! ### The PHY agents -/

@[simp] theorem driveLine_rcuClken (c : Byte) : (driveLine c s).rcuClken = s.rcuClken := by
  unfold driveLine; split <;> [rfl; split <;> rfl]
@[simp] theorem driveLine_gpioCtl0 (c : Byte) : (driveLine c s).gpioCtl0 = s.gpioCtl0 := by
  unfold driveLine; split <;> [rfl; split <;> rfl]
@[simp] theorem driveLine_gpioCtl1 (c : Byte) : (driveLine c s).gpioCtl1 = s.gpioCtl1 := by
  unfold driveLine; split <;> [rfl; split <;> rfl]
@[simp] theorem driveLine_usartBaud (c : Byte) : (driveLine c s).usartBaud = s.usartBaud := by
  unfold driveLine; split <;> [rfl; split <;> rfl]
@[simp] theorem driveLine_usartCtl0 (c : Byte) : (driveLine c s).usartCtl0 = s.usartCtl0 := by
  unfold driveLine; split <;> [rfl; split <;> rfl]
@[simp] theorem driveLine_rxBuf (c : Byte) : (driveLine c s).rxBuf = s.rxBuf := by
  unfold driveLine; split <;> [rfl; split <;> rfl]
@[simp] theorem driveLine_rxFull (c : Byte) : (driveLine c s).rxFull = s.rxFull := by
  unfold driveLine; split <;> [rfl; split <;> rfl]
@[simp] theorem driveLine_txBuf (c : Byte) : (driveLine c s).txBuf = s.txBuf := by
  unfold driveLine; split <;> [rfl; split <;> rfl]
@[simp] theorem driveLine_txFull (c : Byte) : (driveLine c s).txFull = s.txFull := by
  unfold driveLine; split <;> [rfl; split <;> rfl]
@[simp] theorem driveLine_err (c : Byte) : (driveLine c s).err = s.err := by
  unfold driveLine; split <;> [rfl; split <;> rfl]
@[simp] theorem driveLine_upc (c : Byte) : (driveLine c s).upc = s.upc := by
  unfold driveLine; split <;> [rfl; split <;> rfl]
@[simp] theorem driveLine_tmp (c : Byte) : (driveLine c s).tmp = s.tmp := by
  unfold driveLine; split <;> [rfl; split <;> rfl]
@[simp] theorem driveLine_ch (c : Byte) : (driveLine c s).ch = s.ch := by
  unfold driveLine; split <;> [rfl; split <;> rfl]
@[simp] theorem driveLine_fault (c : Byte) : (driveLine c s).fault = s.fault := by
  unfold driveLine; split <;> [rfl; split <;> rfl]
@[simp] theorem driveLine_refused (c : Byte) : (driveLine c s).refused = s.refused := by
  unfold driveLine; split <;> [rfl; split <;> rfl]
@[simp] theorem driveLine_rxHist (c : Byte) : (driveLine c s).rxHist = s.rxHist := by
  unfold driveLine; split <;> [rfl; split <;> rfl]
@[simp] theorem driveLine_txLog (c : Byte) : (driveLine c s).txLog = s.txLog := by
  unfold driveLine; split <;> [rfl; split <;> rfl]
@[simp] theorem driveLine_busLog (c : Byte) : (driveLine c s).busLog = s.busLog := by
  unfold driveLine; split <;> [rfl; split <;> rfl]
@[simp] theorem driveLine_params (c : Byte) : (driveLine c s).params = s.params := by
  unfold driveLine; split <;> [rfl; split <;> rfl]
@[simp] theorem driveLine_port (c : Byte) : (driveLine c s).port = s.port := by
  unfold driveLine; split <;> [rfl; split <;> rfl]
@[simp] theorem driveLine_phase (c : Byte) : (driveLine c s).phase = s.phase := by
  unfold driveLine; split <;> [rfl; split <;> rfl]
@[simp] theorem driveLine_sched (c : Byte) : (driveLine c s).sched = s.sched := by
  unfold driveLine; split <;> [rfl; split <;> rfl]
@[simp] theorem txTake_rcuClken : (txTake s).rcuClken = s.rcuClken := by
  simp [txTake]
@[simp] theorem txTake_gpioCtl0 : (txTake s).gpioCtl0 = s.gpioCtl0 := by
  simp [txTake]
@[simp] theorem txTake_gpioCtl1 : (txTake s).gpioCtl1 = s.gpioCtl1 := by
  simp [txTake]
@[simp] theorem txTake_usartBaud : (txTake s).usartBaud = s.usartBaud := by
  simp [txTake]
@[simp] theorem txTake_usartCtl0 : (txTake s).usartCtl0 = s.usartCtl0 := by
  simp [txTake]
@[simp] theorem txTake_rxBuf : (txTake s).rxBuf = s.rxBuf := by
  simp [txTake]
@[simp] theorem txTake_rxFull : (txTake s).rxFull = s.rxFull := by
  simp [txTake]
@[simp] theorem txTake_txBuf : (txTake s).txBuf = s.txBuf := by
  simp [txTake]
@[simp] theorem txTake_txFull : (txTake s).txFull = false := by
  simp [txTake]
@[simp] theorem txTake_err : (txTake s).err = s.err := by
  simp [txTake]
@[simp] theorem txTake_upc : (txTake s).upc = s.upc := by
  simp [txTake]
@[simp] theorem txTake_tmp : (txTake s).tmp = s.tmp := by
  simp [txTake]
@[simp] theorem txTake_ch : (txTake s).ch = s.ch := by
  simp [txTake]
@[simp] theorem txTake_fault : (txTake s).fault = s.fault := by
  simp [txTake]
@[simp] theorem txTake_refused : (txTake s).refused = s.refused := by
  simp [txTake]
@[simp] theorem txTake_rxHist : (txTake s).rxHist = s.rxHist := by
  simp [txTake]
@[simp] theorem txTake_txLog : (txTake s).txLog = s.txLog ++ [.taken (s.txBuf.extractLsb' 0 8)] := by
  simp [txTake]
@[simp] theorem txTake_busLog : (txTake s).busLog = s.busLog := by
  simp [txTake]
@[simp] theorem txTake_params : (txTake s).params = s.params := by
  simp [txTake]
@[simp] theorem txTake_port : (txTake s).port = s.port := by
  simp [txTake]
@[simp] theorem txTake_phase : (txTake s).phase = s.phase := by
  simp [txTake]
@[simp] theorem txTake_sched : (txTake s).sched = s.sched := by
  simp [txTake]
@[simp] theorem rxArrive_rcuClken (c : Byte) (fe ne : Bool) : (rxArrive c fe ne s).rcuClken = s.rcuClken := by
  unfold rxArrive; split <;> rfl
@[simp] theorem rxArrive_gpioCtl0 (c : Byte) (fe ne : Bool) : (rxArrive c fe ne s).gpioCtl0 = s.gpioCtl0 := by
  unfold rxArrive; split <;> rfl
@[simp] theorem rxArrive_gpioCtl1 (c : Byte) (fe ne : Bool) : (rxArrive c fe ne s).gpioCtl1 = s.gpioCtl1 := by
  unfold rxArrive; split <;> rfl
@[simp] theorem rxArrive_usartBaud (c : Byte) (fe ne : Bool) : (rxArrive c fe ne s).usartBaud = s.usartBaud := by
  unfold rxArrive; split <;> rfl
@[simp] theorem rxArrive_usartCtl0 (c : Byte) (fe ne : Bool) : (rxArrive c fe ne s).usartCtl0 = s.usartCtl0 := by
  unfold rxArrive; split <;> rfl
@[simp] theorem rxArrive_txBuf (c : Byte) (fe ne : Bool) : (rxArrive c fe ne s).txBuf = s.txBuf := by
  unfold rxArrive; split <;> rfl
@[simp] theorem rxArrive_txFull (c : Byte) (fe ne : Bool) : (rxArrive c fe ne s).txFull = s.txFull := by
  unfold rxArrive; split <;> rfl
@[simp] theorem rxArrive_upc (c : Byte) (fe ne : Bool) : (rxArrive c fe ne s).upc = s.upc := by
  unfold rxArrive; split <;> rfl
@[simp] theorem rxArrive_tmp (c : Byte) (fe ne : Bool) : (rxArrive c fe ne s).tmp = s.tmp := by
  unfold rxArrive; split <;> rfl
@[simp] theorem rxArrive_ch (c : Byte) (fe ne : Bool) : (rxArrive c fe ne s).ch = s.ch := by
  unfold rxArrive; split <;> rfl
@[simp] theorem rxArrive_fault (c : Byte) (fe ne : Bool) : (rxArrive c fe ne s).fault = s.fault := by
  unfold rxArrive; split <;> rfl
@[simp] theorem rxArrive_refused (c : Byte) (fe ne : Bool) : (rxArrive c fe ne s).refused = s.refused := by
  unfold rxArrive; split <;> rfl
@[simp] theorem rxArrive_txLog (c : Byte) (fe ne : Bool) : (rxArrive c fe ne s).txLog = s.txLog := by
  unfold rxArrive; split <;> rfl
@[simp] theorem rxArrive_busLog (c : Byte) (fe ne : Bool) : (rxArrive c fe ne s).busLog = s.busLog := by
  unfold rxArrive; split <;> rfl
@[simp] theorem rxArrive_params (c : Byte) (fe ne : Bool) : (rxArrive c fe ne s).params = s.params := by
  unfold rxArrive; split <;> rfl
@[simp] theorem rxArrive_lineLog (c : Byte) (fe ne : Bool) : (rxArrive c fe ne s).lineLog = s.lineLog := by
  unfold rxArrive; split <;> rfl
@[simp] theorem rxArrive_port (c : Byte) (fe ne : Bool) : (rxArrive c fe ne s).port = s.port := by
  unfold rxArrive; split <;> rfl
@[simp] theorem rxArrive_phase (c : Byte) (fe ne : Bool) : (rxArrive c fe ne s).phase = s.phase := by
  unfold rxArrive; split <;> rfl
@[simp] theorem rxArrive_sched (c : Byte) (fe ne : Bool) : (rxArrive c fe ne s).sched = s.sched := by
  unfold rxArrive; split <;> rfl
@[simp] theorem rxArrive_draws (c : Byte) (fe ne : Bool) : (rxArrive c fe ne s).draws = s.draws := by
  unfold rxArrive; split <;> rfl
@[simp] theorem phyRx_rcuClken (c : Byte) (fe ne : Bool) : (phyRx c fe ne s).rcuClken = s.rcuClken := by
  unfold phyRx; split <;> simp
@[simp] theorem phyRx_gpioCtl0 (c : Byte) (fe ne : Bool) : (phyRx c fe ne s).gpioCtl0 = s.gpioCtl0 := by
  unfold phyRx; split <;> simp
@[simp] theorem phyRx_gpioCtl1 (c : Byte) (fe ne : Bool) : (phyRx c fe ne s).gpioCtl1 = s.gpioCtl1 := by
  unfold phyRx; split <;> simp
@[simp] theorem phyRx_usartBaud (c : Byte) (fe ne : Bool) : (phyRx c fe ne s).usartBaud = s.usartBaud := by
  unfold phyRx; split <;> simp
@[simp] theorem phyRx_usartCtl0 (c : Byte) (fe ne : Bool) : (phyRx c fe ne s).usartCtl0 = s.usartCtl0 := by
  unfold phyRx; split <;> simp
@[simp] theorem phyRx_txBuf (c : Byte) (fe ne : Bool) : (phyRx c fe ne s).txBuf = s.txBuf := by
  unfold phyRx; split <;> simp
@[simp] theorem phyRx_txFull (c : Byte) (fe ne : Bool) : (phyRx c fe ne s).txFull = s.txFull := by
  unfold phyRx; split <;> simp
@[simp] theorem phyRx_upc (c : Byte) (fe ne : Bool) : (phyRx c fe ne s).upc = s.upc := by
  unfold phyRx; split <;> simp
@[simp] theorem phyRx_tmp (c : Byte) (fe ne : Bool) : (phyRx c fe ne s).tmp = s.tmp := by
  unfold phyRx; split <;> simp
@[simp] theorem phyRx_ch (c : Byte) (fe ne : Bool) : (phyRx c fe ne s).ch = s.ch := by
  unfold phyRx; split <;> simp
@[simp] theorem phyRx_fault (c : Byte) (fe ne : Bool) : (phyRx c fe ne s).fault = s.fault := by
  unfold phyRx; split <;> simp
@[simp] theorem phyRx_refused (c : Byte) (fe ne : Bool) : (phyRx c fe ne s).refused = s.refused := by
  unfold phyRx; split <;> simp
@[simp] theorem phyRx_txLog (c : Byte) (fe ne : Bool) : (phyRx c fe ne s).txLog = s.txLog := by
  unfold phyRx; split <;> simp
@[simp] theorem phyRx_busLog (c : Byte) (fe ne : Bool) : (phyRx c fe ne s).busLog = s.busLog := by
  unfold phyRx; split <;> simp
@[simp] theorem phyRx_params (c : Byte) (fe ne : Bool) : (phyRx c fe ne s).params = s.params := by
  unfold phyRx; split <;> simp
@[simp] theorem phyRx_lineLog (c : Byte) (fe ne : Bool) : (phyRx c fe ne s).lineLog = s.lineLog := by
  unfold phyRx; split <;> simp
@[simp] theorem phyRx_port (c : Byte) (fe ne : Bool) : (phyRx c fe ne s).port = s.port := by
  unfold phyRx; split <;> simp
@[simp] theorem phyRx_phase (c : Byte) (fe ne : Bool) : (phyRx c fe ne s).phase = s.phase := by
  unfold phyRx; split <;> simp
@[simp] theorem phyRx_sched (c : Byte) (fe ne : Bool) : (phyRx c fe ne s).sched = s.sched := by
  unfold phyRx; split <;> simp
@[simp] theorem phyRx_draws (c : Byte) (fe ne : Bool) : (phyRx c fe ne s).draws = s.draws := by
  unfold phyRx; split <;> simp

/-- A line turn is a `PHY_RX` turn, of the character sent or of a free one, or nothing; a draw may be counted. -/
theorem lineRx_cases (c : Byte) (fe ne : Bool) :
    lineRx c fe ne s = phyRx c fe ne s ∨ (∃ c' fe' ne', lineRx c fe ne s = phyRx c' fe' ne' s.drawn) ∨
      lineRx c fe ne s = s.drawn := by
  unfold lineRx
  split
  · exact .inl rfl
  · split
    · exact .inr (.inl ⟨_, _, _, rfl⟩)
    · exact .inr (.inr rfl)

theorem rxArrive_empty {s : State} (h : s.rxFull = false) (c : Byte) (fe ne : Bool) :
    rxArrive c fe ne s =
      { s with
        rxBuf := c.setWidth 9, rxFull := true, rxHist := s.rxHist ++ [.arrived c fe ne true]
        err := { s.err with framing := s.err.framing || fe, noise := s.err.noise || ne } } := by
  simp [rxArrive, h, State.setErr, State.fillRx, State.logRx]

theorem rxArrive_full {s : State} (h : s.rxFull = true) (c : Byte) (fe ne : Bool) :
    rxArrive c fe ne s =
      { s with
        rxHist := s.rxHist ++ [.arrived c fe ne false]
        err := { s.err with overrun := true, framing := s.err.framing || fe, noise := s.err.noise || ne } } := by
  simp [rxArrive, h, State.setErr, State.logRx]

theorem txTake_lineLog {s : State} (h : txConnected s = true) :
    (txTake s).lineLog = s.lineLog ++ [.taken (s.txBuf.extractLsb' 0 8)] := by
  have h' : txConnected (s.logTx (.taken (s.txBuf.extractLsb' 0 8))) = true := h
  simp [txTake, driveLine, h']


end Sys2Proof.Machine
end

