-- ==== Sys2Proof/Laws/PerInstr.lean ====
section
/-! SUPPORT. Facts of every operation, one lemma per constructor of `Instr`: its code word fits its row of
spec/opcode_table.json. The rows are written from the table's "match", "mask" and "encoding" columns, not from the
encoder. -/

namespace Sys2Proof.Laws.FitsRow

/-- A row of spec/opcode_table.json: the port its words arrive on and the fixed bits. -/
inductive Row where
  /-- A BUS row: all eight bits of the key are fixed. -/
  | bus (key : BitVec 8)
  /-- An OP row: the fixed bits of the 35 and their values. -/
  | op (mask value : OpBits)
  /-- A UOP row: all four bits of `upc` are fixed. -/
  | uop (upc : Nibble)

/-- Whether a code word fits a row. -/
def Row.accepts : Row → CodeWord → Prop
  | .bus key, .port (.key k _) => k = key
  | .op mask value, .port (.op w) => w &&& mask = value
  | .uop u, .uop u' => u' = u
  | _, _ => False

/-- The row of each operation. -/
def row : Instr → Row
  | .rdRcuClken => .bus 0x18#8
  | .wrRcuClken _ => .bus 0x98#8
  | .rdGpioCtl0 => .bus 0x20#8
  | .wrGpioCtl0 _ => .bus 0xA0#8
  | .rdGpioCtl1 => .bus 0x24#8
  | .wrGpioCtl1 _ => .bus 0xA4#8
  | .rdUsartStat => .bus 0x40#8
  | .wrUsartStat _ => .bus 0xC0#8
  | .rdUsartData => .bus 0x44#8
  | .wrUsartData _ => .bus 0xC4#8
  | .rdUsartBaud => .bus 0x48#8
  | .wrUsartBaud _ => .bus 0xC8#8
  | .rdUsartCtl0 => .bus 0x4C#8
  | .wrUsartCtl0 _ => .bus 0xCC#8
  | .enable _ => .op 0x700000000#35 0x000000000#35
  | .configure _ _ => .op 0x7FFFFFF00#35 0x100000000#35
  | .init _ => .op 0x700000000#35 0x200000000#35
  | .receive => .op 0x7FFFFFFFF#35 0x300000000#35
  | .transmit _ => .op 0x700000000#35 0x400000000#35
  | .clkEn => .uop 0x0#4
  | .txpRd => .uop 0x1#4
  | .txpWr => .uop 0x2#4
  | .rxpRd => .uop 0x3#4
  | .rxpWr => .uop 0x4#4
  | .baudWr => .uop 0x5#4
  | .ctlWr => .uop 0x6#4
  | .rxPoll => .uop 0x7#4
  | .rxRead => .uop 0x8#4
  | .txPoll => .uop 0x9#4
  | .txWrite => .uop 0xA#4

/-- The family: the operation's code word fits its row. -/
def Statement (i : Instr) : Prop := (row i).accepts (encode i)

/-- The selector's bits of an OP word, whatever its operand. -/
theorem selector_fixed (sel : BitVec 3) (operand : Word) :
    (sel ++ operand) &&& 0x700000000#35 = sel ++ 0#32 := by
  rw [show (0x700000000#35) = 7#3 ++ 0#32 by decide, BitVec.and_append, BitVec.and_zero]
  congr 1
  exact BitVec.and_allOnes (x := sel)

theorem rdRcuClken : Statement .rdRcuClken := rfl
theorem wrRcuClken (v : Word) : Statement (.wrRcuClken v) := rfl
theorem rdGpioCtl0 : Statement .rdGpioCtl0 := rfl
theorem wrGpioCtl0 (v : Word) : Statement (.wrGpioCtl0 v) := rfl
theorem rdGpioCtl1 : Statement .rdGpioCtl1 := rfl
theorem wrGpioCtl1 (v : Word) : Statement (.wrGpioCtl1 v) := rfl
theorem rdUsartStat : Statement .rdUsartStat := rfl
theorem wrUsartStat (v : Word) : Statement (.wrUsartStat v) := rfl
theorem rdUsartData : Statement .rdUsartData := rfl
theorem wrUsartData (v : Word) : Statement (.wrUsartData v) := rfl
theorem rdUsartBaud : Statement .rdUsartBaud := rfl
theorem wrUsartBaud (v : Word) : Statement (.wrUsartBaud v) := rfl
theorem rdUsartCtl0 : Statement .rdUsartCtl0 := rfl
theorem wrUsartCtl0 (v : Word) : Statement (.wrUsartCtl0 v) := rfl
theorem enable (m : Word) : Statement (.enable m) := selector_fixed 0b000#3 m
theorem configure (pin config : Nibble) : Statement (.configure pin config) := by
  show (0b001#3 ++ (0#24 ++ pin ++ config)) &&& 0x7FFFFFF00#35 = 0x100000000#35
  rw [show (0x7FFFFFF00#35) = 7#3 ++ (0xFFFFFF#24 ++ 0#4 ++ 0#4) by decide, BitVec.and_append, BitVec.and_append,
    BitVec.and_append, BitVec.and_zero, BitVec.and_zero]
  decide
theorem init (d : Word) : Statement (.init d) := selector_fixed 0b010#3 d
theorem receive : Statement .receive := by
  show (0b011#3 ++ 0#32) &&& 0x7FFFFFFFF#35 = 0x300000000#35
  decide
theorem transmit (v : Word) : Statement (.transmit v) := selector_fixed 0b100#3 v
theorem clkEn : Statement .clkEn := rfl
theorem txpRd : Statement .txpRd := rfl
theorem txpWr : Statement .txpWr := rfl
theorem rxpRd : Statement .rxpRd := rfl
theorem rxpWr : Statement .rxpWr := rfl
theorem baudWr : Statement .baudWr := rfl
theorem ctlWr : Statement .ctlWr := rfl
theorem rxPoll : Statement .rxPoll := rfl
theorem rxRead : Statement .rxRead := rfl
theorem txPoll : Statement .txPoll := rfl
theorem txWrite : Statement .txWrite := rfl

end Sys2Proof.Laws.FitsRow
end

