-- ==== Sys2Proof/Laws/Registers.lean ====
section
/-! SUPPORT. The seven registers, one lemma per register and question: its address (spec/20_memory.md R51), its gate (R58),
and for a pin's register (spec/42_pin_configure.md R129) what a transaction on it does; the legal operands as ranges. -/

namespace Sys2Proof.Machine

/-! ### Addresses -/

theorem addrOf_rcuClken (p : Params) : addrOf p .rcuClken = p.rcuBase + 0x18#32 := rfl
theorem addrOf_gpioCtl0 (p : Params) : addrOf p .gpioCtl0 = p.gpioBase + 0x00#32 := rfl
theorem addrOf_gpioCtl1 (p : Params) : addrOf p .gpioCtl1 = p.gpioBase + 0x04#32 := rfl
theorem addrOf_usartStat (p : Params) : addrOf p .usartStat = p.usartBase + 0x00#32 := rfl
theorem addrOf_usartData (p : Params) : addrOf p .usartData = p.usartBase + 0x04#32 := rfl
theorem addrOf_usartBaud (p : Params) : addrOf p .usartBaud = p.usartBase + 0x08#32 := rfl
theorem addrOf_usartCtl0 (p : Params) : addrOf p .usartCtl0 = p.usartBase + 0x0C#32 := rfl

theorem addrOf_gpioReg (p : Params) (pin : Nibble) : addrOf p (gpioReg pin) = gpioAddr p pin := by
  unfold gpioReg gpioAddr; split <;> rfl

/-! ### Gates -/

theorem gateOpen_rcuClken (s : State) : gateOpen .rcuClken s = true := rfl
theorem gateOpen_gpioCtl0 (s : State) : gateOpen .gpioCtl0 s = paen s := rfl
theorem gateOpen_gpioCtl1 (s : State) : gateOpen .gpioCtl1 s = paen s := rfl
theorem gateOpen_usartStat (s : State) : gateOpen .usartStat s = usart0en s := rfl
theorem gateOpen_usartData (s : State) : gateOpen .usartData s = usart0en s := rfl
theorem gateOpen_usartBaud (s : State) : gateOpen .usartBaud s = usart0en s := rfl
theorem gateOpen_usartCtl0 (s : State) : gateOpen .usartCtl0 s = usart0en s := rfl

theorem gateOpen_gpioReg (pin : Nibble) (s : State) : gateOpen (gpioReg pin) s = paen s := by
  unfold gpioReg; split <;> rfl

/-- The fault of a closed gate while nothing is recorded yet (R197, R204). -/
theorem raiseClockNotReady_eq {s : State} (h : s.fault = none) (u : Option Nibble) (a : Word) :
    raiseClockNotReady u a s = clockFaulted s u a := by
  simp [raiseClockNotReady, raise, clockFaulted, State.setErr, h]

/-! ### A pin's register -/

theorem readValue_gpioReg (pin : Nibble) (s : State) : readValue (gpioReg pin) s = gpioWord s pin := by
  unfold gpioReg gpioWord; split <;> rfl

theorem readEffect_gpioReg (pin : Nibble) (s : State) : readEffect (gpioReg pin) s = s := by
  unfold gpioReg; split <;> rfl

theorem writeEffect_gpioReg (pin : Nibble) (v : Word) (s : State) :
    writeEffect (gpioReg pin) v s = withGpioWord s pin v := by
  unfold gpioReg withGpioWord; split <;> rfl

theorem writeRefusal_gpioReg (pin : Nibble) (v : Word) (s : State) : writeRefusal (gpioReg pin) v s = none := by
  unfold gpioReg; split <;> rfl

/-! ### Legal operands -/

theorem divisorLegal_iff (v : Word) : divisorLegal v = true ↔ 1 ≤ v.toNat ∧ v.toNat ≤ 0xFFFF := by
  simp [divisorLegal]

theorem divisorLegal_false {v : Word} (h : v = 0#32 ∨ 0xFFFF < v.toNat) : divisorLegal v = false := by
  rw [← Bool.not_eq_true, divisorLegal_iff]
  rcases h with rfl | h
  · simp
  · omega

/-- The divisor of legal parameters is a legal operand of `BAUD_WR` (R183). -/
theorem divisorWord_legal {p : Params} (h : p.legal = true) : divisorLegal (divisorWord p) = true := by
  simp only [Params.legal, Bool.and_eq_true, decide_eq_true_eq] at h
  obtain ⟨⟨_, h1⟩, h2⟩ := h
  rw [divisorLegal_iff, divisorWord, BitVec.toNat_ofNat]
  omega

/-- The word of a status read, seen through its two flags and the two bit tests (R107, R155, R159). -/
theorem readValue_usartStat (s : State) : ∃ w : Word, readValue .usartStat s = w ∧ w.getLsbD 5 = s.rxFull ∧
    w.getLsbD 7 = !s.txFull ∧ rbneSeen w = s.rxFull ∧ tbeSeen w = !s.txFull := by
  refine ⟨_, rfl, ?_, ?_, ?_, ?_⟩ <;> simp only [readValue]
  · rw [statWord_getLsbD _ _ _ _ (by omega)]; rfl
  · rw [statWord_getLsbD _ _ _ _ (by omega)]; rfl
  · exact rbneSeen_statWord _ _ _
  · exact tbeSeen_statWord _ _ _

end Sys2Proof.Machine
end

