-- ==== Sys2Proof/Laws/Step.lean ====
section
/-! SUPPORT. What an operation, a `SEQ` step and a machine step can do, said once: if it answers a next state, one of these
cases holds. Proofs about every operation cite these and do not split `exec`. -/

namespace Sys2Proof.Machine

/-! ### One operation -/

/-- What an operation writes beside its bus transaction. -/
def State.working (s : State) (n : Nibble) (v c : Word) (ph : OpPhase) : State :=
  { s with upc := n, tmp := v, ch := c, phase := ph }

/-- The three ways an operation answers a next state: its transaction was gated off, was a read, or was a write. -/
inductive ExecCase (i : Instr) (s t : State) : Prop where
  /-- The gate was closed (R58, R204). -/
  | gated (r : Reg) (u : Option Nibble) (closed : gateOpen r s = false) (hu : u = some s.upc ∨ u = none)
      (ht : t = raiseClockNotReady u (addrOf s.params r) s)
  /-- A read transaction took place (R52). -/
  | read (r : Reg) (n : Nibble) (v c : Word) (ph : OpPhase) (opened : gateOpen r s = true)
      (hn : n = s.upc ∨ n.toNat ≤ 10) (hph : ph = s.phase ∨ phaseOwner ph = none ∨ phaseOwner ph = some i)
      (ht : t = ((readEffect r s).logBus (.read (addrOf s.params r) (readValue r s))).working n v c ph)
  /-- A write transaction took place (R53). -/
  | write (r : Reg) (w : Word) (n : Nibble) (v c : Word) (ph : OpPhase) (opened : gateOpen r s = true)
      (legal : writeRefusal r w s = none)
      (hn : n = s.upc ∨ n.toNat ≤ 10) (hph : ph = s.phase ∨ phaseOwner ph = none ∨ phaseOwner ph = some i)
      (ht : t = ((writeEffect r w s).logBus (.write (addrOf s.params r) w)).working n v c ph)

theorem ExecCase.of_busRead {i : Instr} {u : Option Nibble} {r : Reg} {s t : State} {k : Word → State → Result}
    (hu : u = some s.upc ∨ u = none) (h : busRead u r s k = .next t)
    (hk : ∀ x, k (readValue r s) x = .next t → x.upc = s.upc → x.phase = s.phase → ∃ n v c ph,
      (n = s.upc ∨ n.toNat ≤ 10) ∧ (ph = s.phase ∨ phaseOwner ph = none ∨ phaseOwner ph = some i) ∧
        t = x.working n v c ph) : ExecCase i s t := by
  cases hg : gateOpen r s with
  | false =>
    rw [busRead_closed hg] at h
    exact .gated r u hg hu (by injection h with h; exact h.symm)
  | true =>
    rw [busRead_open hg] at h
    obtain ⟨n, v, c, ph, hn, hph, ht⟩ := hk _ h (by simp) (by simp)
    exact .read r n v c ph hg hn hph ht

theorem ExecCase.of_busWrite {i : Instr} {u : Option Nibble} {r : Reg} {w : Word} {s t : State} {k : State → Result}
    (hu : u = some s.upc ∨ u = none) (h : busWrite u r w s k = .next t)
    (hk : ∀ x, k x = .next t → x.upc = s.upc → x.phase = s.phase → ∃ n v c ph,
      (n = s.upc ∨ n.toNat ≤ 10) ∧ (ph = s.phase ∨ phaseOwner ph = none ∨ phaseOwner ph = some i) ∧
        t = x.working n v c ph) : ExecCase i s t := by
  cases hg : gateOpen r s with
  | false =>
    rw [busWrite_closed hg] at h
    exact .gated r u hg hu (by injection h with h; exact h.symm)
  | true =>
    cases hw : writeRefusal r w s with
    | some e => rw [busWrite_illegal hg hw] at h; cases h
    | none =>
      rw [busWrite_open hg hw] at h
      obtain ⟨n, v, c, ph, hn, hph, ht⟩ := hk _ h (by simp) (by simp)
      exact .write r w n v c ph hg hw hn hph ht

theorem readAlone_cases {i : Instr} {r : Reg} {s t : State} (h : readAlone r s = .next t) :
    Running s ∧ ExecCase i s t := by
  obtain ⟨hr, h⟩ := whenRunning_next h
  refine ⟨hr, .of_busRead (.inl rfl) h fun x hx hu hp => ⟨s.upc, x.tmp, x.ch, s.phase, .inl rfl, .inl rfl, ?_⟩⟩
  injection hx with hx
  rw [← hx, ← hu, ← hp]; rfl

theorem writeAlone_cases {i : Instr} {r : Reg} {w : Word} {s t : State} (h : writeAlone r w s = .next t) :
    Running s ∧ ExecCase i s t := by
  obtain ⟨hr, h⟩ := whenRunning_next h
  refine ⟨hr, .of_busWrite (.inl rfl) h fun x hx hu hp => ⟨s.upc, x.tmp, x.ch, s.phase, .inl rfl, .inl rfl, ?_⟩⟩
  injection hx with hx
  rw [← hx, ← hu, ← hp]; rfl

theorem microWrite_cases {i : Instr} {r : Reg} {w : Word} {n : Nibble} {s t : State} (hn : n.toNat ≤ 10)
    (h : microWrite r w n s = .next t) : Running s ∧ ExecCase i s t := by
  obtain ⟨hr, h⟩ := whenRunning_next h
  refine ⟨hr, .of_busWrite (.inl rfl) h fun x hx _ hp => ⟨n, x.tmp, x.ch, s.phase, .inr hn, .inl rfl, ?_⟩⟩
  injection hx with hx
  rw [← hx, ← hp]; rfl

theorem microRead_cases {i : Instr} {r : Reg} {k : Word → State → State} {s t : State}
    (hk : ∀ v x, ∃ n a c, n.toNat ≤ 10 ∧ k v x = x.working n a c x.phase)
    (h : microRead r s k = .next t) : Running s ∧ ExecCase i s t := by
  obtain ⟨hr, h⟩ := whenRunning_next h
  refine ⟨hr, .of_busRead (.inl rfl) h fun x hx _ hp => ?_⟩
  obtain ⟨n, a, c, hn, he⟩ := hk (readValue r s) x
  injection hx with hx
  exact ⟨n, a, c, s.phase, .inr hn, .inl rfl, by rw [← hx, he, hp]⟩

/-- A driver operation's step: a transaction that ends in the named phase. -/
theorem ExecCase.of_opWrite {i : Instr} {r : Reg} {w : Word} {ph : OpPhase} {s t : State}
    (hph : phaseOwner ph = none ∨ phaseOwner ph = some i)
    (h : busWrite none r w s (fun x => .next (x.setPhase ph)) = .next t) : ExecCase i s t := by
  refine .of_busWrite (.inr rfl) h fun x hx hu _ => ⟨s.upc, x.tmp, x.ch, ph, .inl rfl, .inr hph, ?_⟩
  injection hx with hx
  rw [← hx, ← hu]; rfl

theorem ExecCase.of_opRead {i : Instr} {r : Reg} {k : Word → State → State} {s t : State}
    (hk : ∀ v x, ∃ a c ph, (phaseOwner ph = none ∨ phaseOwner ph = some i) ∧ k v x = x.working x.upc a c ph)
    (h : busRead none r s (fun v x => .next (k v x)) = .next t) : ExecCase i s t := by
  refine .of_busRead (.inr rfl) h fun x hx hu _ => ?_
  obtain ⟨a, c, ph, hph, he⟩ := hk (readValue r s) x
  injection hx with hx
  exact ⟨s.upc, a, c, ph, .inl rfl, .inr hph, by rw [← hx, he, hu]⟩

theorem pollTarget_le (b : Bool) (m n : Nibble) (hm : m.toNat ≤ 10) (hn : n.toNat ≤ 10) :
    (if b = true then m else n).toNat ≤ 10 := by
  cases b <;> simpa

theorem execConfigure_cases {pin cfg : Nibble} {s t : State} (h : execConfigure pin cfg s = .next t) :
    Running s ∧ ExecCase (.configure pin cfg) s t := by
  obtain ⟨hr, h⟩ := whenRunning_next h
  refine ⟨hr, ?_⟩
  split at h
  · exact .of_opWrite (.inl rfl) h
  · exact .of_opRead (k := fun v x => (x.setTmp v).setPhase (.configureWrite pin cfg))
      (fun v x => ⟨v, x.ch, .configureWrite pin cfg, .inr rfl, rfl⟩) h

theorem execInit_cases {d : Word} {s t : State} (h : execInit d s = .next t) :
    Running s ∧ ExecCase (.init d) s t := by
  obtain ⟨hr, h⟩ := whenRunning_next h
  refine ⟨hr, ?_⟩
  split at h
  · exact .of_opWrite (.inl rfl) h
  · exact .of_opWrite (.inr rfl) h

theorem execReceive_cases {s t : State} (h : execReceive s = .next t) :
    Running s ∧ ExecCase .receive s t := by
  obtain ⟨hr, h⟩ := whenRunning_next h
  refine ⟨hr, ?_⟩
  split at h
  · exact .of_opRead (k := fun v x => (x.setCh v).setPhase .idle) (fun v x => ⟨x.tmp, v, .idle, .inl rfl, rfl⟩) h
  · exact .of_opRead (k := fun v x => (x.setTmp v).setPhase (if rbneSeen v then .receiveReady else .receiveWaiting))
      (fun v x => ⟨v, x.ch, _, .inr (by split <;> rfl), rfl⟩) h

theorem execTransmit_cases {w : Word} {s t : State} (h : execTransmit w s = .next t) :
    Running s ∧ ExecCase (.transmit w) s t := by
  obtain ⟨hr, h⟩ := whenRunning_next h
  refine ⟨hr, ?_⟩
  split at h
  · exact .of_opWrite (.inl rfl) h
  · exact .of_opRead
      (k := fun v x => (x.setTmp v).setPhase (if tbeSeen v then .transmitReady w else .transmitWaiting w))
      (fun v x => ⟨v, x.ch, _, .inr (by split <;> rfl), rfl⟩) h

/-- Whatever the operation, a next state is one of the three cases. -/
theorem exec_next_cases {i : Instr} {s t : State} (h : exec i s = .next t) : Running s ∧ ExecCase i s t := by
  cases i with
  | rdRcuClken => exact readAlone_cases h
  | wrRcuClken v => exact writeAlone_cases h
  | rdGpioCtl0 => exact readAlone_cases h
  | wrGpioCtl0 v => exact writeAlone_cases h
  | rdGpioCtl1 => exact readAlone_cases h
  | wrGpioCtl1 v => exact writeAlone_cases h
  | rdUsartStat => exact readAlone_cases h
  | wrUsartStat v => exact writeAlone_cases h
  | rdUsartData => exact readAlone_cases h
  | wrUsartData v => exact writeAlone_cases h
  | rdUsartBaud => exact readAlone_cases h
  | wrUsartBaud v => exact writeAlone_cases h
  | rdUsartCtl0 => exact readAlone_cases h
  | wrUsartCtl0 v => exact writeAlone_cases h
  | enable m =>
    obtain ⟨hr, h⟩ := whenRunning_next (show execEnable m s = .next t from h)
    exact ⟨hr, .of_opWrite (.inl rfl) h⟩
  | configure pin cfg => exact execConfigure_cases h
  | init d => exact execInit_cases h
  | receive => exact execReceive_cases h
  | transmit w => exact execTransmit_cases h
  | clkEn => exact microWrite_cases (by decide) h
  | txpRd => exact microRead_cases (fun v x => ⟨2#4, v, x.ch, by decide, rfl⟩) h
  | txpWr => exact microWrite_cases (by decide) h
  | rxpRd => exact microRead_cases (fun v x => ⟨4#4, v, x.ch, by decide, rfl⟩) h
  | rxpWr => exact microWrite_cases (by decide) h
  | baudWr => exact microWrite_cases (by decide) h
  | ctlWr => exact microWrite_cases (by decide) h
  | rxPoll => exact microRead_cases (fun v x => ⟨_, v, x.ch, pollTarget_le _ 8#4 7#4 (by decide) (by decide), rfl⟩) h
  | rxRead => exact microRead_cases (fun v x => ⟨9#4, x.tmp, v, by decide, rfl⟩) h
  | txPoll => exact microRead_cases (fun v x => ⟨_, v, x.ch, pollTarget_le _ 10#4 9#4 (by decide) (by decide), rfl⟩) h
  | txWrite => exact microWrite_cases (by decide) h

/-! ### One `SEQ` step -/

theorem retire_eq (cw : CodeWord) (t : State) : retire cw t = t ∨
    retire cw t = t.setPort t.port.tail ∧ t.fault = none ∧ ∃ it, cw = .port it ∧ ∀ w, it = .op w → t.phase = .idle := by
  unfold retire
  split
  · rename_i h
    right
    refine ⟨rfl, ?_⟩
    unfold finished at h
    rw [Bool.and_eq_true, Option.isNone_iff_eq_none] at h
    refine ⟨h.1, ?_⟩
    split at h
    · rename_i w
      exact ⟨_, rfl, fun _ _ => by simpa using h.2⟩
    · rename_i it hop
      exact ⟨_, rfl, fun w hw => absurd hw (by simpa using hop w)⟩
    · simp at h
  · exact .inl rfl

/-- A `SEQ` step that answers a next state: an operation ran, a refusal was recorded, or the fault `IllegalState`. -/
theorem seqStep_next_cases {s t : State} (h : seqStep s = .next t) : Running s ∧
    ((∃ i u, decode s.params (fetch s) = .ok i ∧ exec i s = .next u ∧ t = retire (fetch s) u) ∨
      (∃ r, t = s.markRefused r) ∨
      (∃ u, decode s.params (fetch s) = .error (.illegalUpc u) ∧ t = raise .illegalState (some s.upc) none s)) := by
  obtain ⟨hr, h⟩ := whenRunning_next h
  refine ⟨hr, ?_⟩
  split at h
  · rename_i i hd
    unfold settle at h
    split at h
    · rename_i u he
      injection h with h
      exact .inl ⟨i, u, hd, he, h.symm⟩
    · cases h
    · injection h with h
      exact .inr (.inl ⟨_, h.symm⟩)
  · rename_i e hd
    injection h with h
    cases e with
    | illegalUpc u => exact .inr (.inr ⟨u, hd, h.symm⟩)
    | width => exact .inr (.inl ⟨_, h.symm⟩)
    | misaligned => exact .inr (.inl ⟨_, h.symm⟩)
    | unmapped => exact .inr (.inl ⟨_, h.symm⟩)
    | reservedSelector => exact .inr (.inl ⟨_, h.symm⟩)
    | reservedOperandBits => exact .inr (.inl ⟨_, h.symm⟩)

/-! ### One step -/

/-- A step that answers a next state: a `SEQ` step, a turn that passes, a PHY agent's step, RESET, or the refusal of
illegal parameters. -/
inductive StepCase (s t : State) : Prop where
  | seqLast (legal : s.params.legal = true) (h : s.sched = []) (ht : seqStep s = .next t)
  | seq (legal : s.params.legal = true) (rest : List Turn) (h : s.sched = .seq :: rest)
      (ht : seqStep (s.setSched rest) = .next t)
  | pass (legal : s.params.legal = true) (rest : List Turn) (h : s.sched = .seq :: rest) (hf : s.fault ≠ none) (ht : t = s.setSched rest)
  | rxArrive (legal : s.params.legal = true) (c : Byte) (fe ne : Bool) (rest : List Turn) (h : s.sched = .rxArrive c fe ne :: rest)
      (hr : s.refused = none) (ht : t = phyRx c fe ne (s.setSched rest))
  | lineRx (legal : s.params.legal = true) (c : Byte) (fe ne : Bool) (rest : List Turn) (h : s.sched = .lineRx c fe ne :: rest)
      (hr : s.refused = none) (ht : t = Sys2Proof.Machine.lineRx c fe ne (s.setSched rest))
  | txTake (legal : s.params.legal = true) (rest : List Turn) (h : s.sched = .txTake :: rest)
      (hr : s.refused = none) (ht : t = phyTx (s.setSched rest))
  | reset (rest : List Turn) (h : s.sched = .reset :: rest) (ht : t = resetStep (s.setSched rest))
  | illegal (illegal : s.params.legal = false) (h : ∀ rest, s.sched ≠ .reset :: rest) (hr : s.refused = none)
      (ht : t = (s.setSched s.sched.tail).markRefused .illegalParameters)

theorem unlessRefused_next {s t u : State} (h : unlessRefused s u = .next t) : s.refused = none ∧ t = u := by
  unfold unlessRefused at h
  split at h
  · cases h
  · injection h with h
    exact ⟨‹_›, h.symm⟩

theorem step_of_legal {s : State} (h : s.params.legal = true) : step s = nextTurn s := by
  simp [step, h]

theorem step_of_illegal {s : State} (h : s.params.legal = false) : step s = refusedTurn s := by
  simp [step, h]

/-- RESET is a turn like any other, whatever the parameters (R220). -/
theorem step_reset {s : State} {rest : List Turn} (h : s.sched = .reset :: rest) :
    step s = .next (resetStep (s.setSched rest)) := by
  cases hl : s.params.legal with
  | true => simp [step_of_legal hl, nextTurn, h, agentStep]
  | false => simp [step_of_illegal hl, refusedTurn, h]

/-- Under illegal parameters any turn but RESET is refused (R207). -/
theorem refusedTurn_eq {s : State} (h : ∀ rest, s.sched ≠ .reset :: rest) :
    refusedTurn s = unlessRefused s ((s.setSched s.sched.tail).markRefused .illegalParameters) := by
  unfold refusedTurn
  split
  · exact absurd ‹_› (h _)
  · rfl

/-- Under illegal parameters a turn is RESET or records the refusal. -/
theorem refusedTurn_next_cases {s t : State} (hl : s.params.legal = false) (h : refusedTurn s = .next t) :
    StepCase s t := by
  unfold refusedTurn at h
  split at h
  · rename_i rest hs
    injection h with h
    exact .reset rest hs h.symm
  · rename_i hs
    obtain ⟨hr, ht⟩ := unlessRefused_next h
    exact .illegal hl hs hr ht

theorem step_next_cases {s t : State} (h : step s = .next t) : StepCase s t := by
  unfold step at h
  split at h
  case isFalse hl => exact refusedTurn_next_cases (Bool.not_eq_true _ ▸ hl) h
  rename_i hl
  unfold nextTurn at h
  split at h
  · exact .seqLast hl ‹_› h
  · rename_i turn rest hs
    cases turn with
    | seq =>
      replace h : seqTurn (s.setSched rest) = .next t := h
      unfold seqTurn at h
      split at h
      · rename_i hf
        injection h with h
        exact .pass hl rest hs (by simpa using fun hn => by simp [hn] at hf) h.symm
      · exact .seq hl rest hs h
    | rxArrive c fe ne =>
      have := unlessRefused_next (show unlessRefused _ _ = _ from h)
      exact .rxArrive hl c fe ne rest hs this.1 this.2
    | lineRx c fe ne =>
      have := unlessRefused_next (show unlessRefused _ _ = _ from h)
      exact .lineRx hl c fe ne rest hs this.1 this.2
    | txTake =>
      have := unlessRefused_next (show unlessRefused _ _ = _ from h)
      exact .txTake hl rest hs this.1 this.2
    | reset =>
      replace h : Host.Outcome.next (resetStep (s.setSched rest)) = .next t := h
      injection h with h
      exact .reset rest hs h.symm

end Sys2Proof.Machine
end

