-- ==== Sys2Proof/Tests/Slice0.lean ====
section
/-! SUPPORT. The model's own tests. The expected results are the spec's: the encoding tables (spec/30_encoding.md R76, R88,
R89) and the vectors of spec/95_test_vectors.md, named in each docstring. The last sections hold one witness per
hypothesis set of the statements. -/

namespace Sys2Proof.Tests

open Sys2Proof Sys2Proof.Machine

/-! ### Helpers -/

/-- Whether the answer is a next state with the property. -/
def onNext (o : Result) (f : State → Bool) : Bool :=
  match o with
  | .next t => f t
  | _ => false

/-- Whether the answer is this refusal. -/
def refuses (o : Result) (r : Refusal) : Bool :=
  match o with
  | .refused e => e == r
  | _ => false

/-- Whether the answer is a fault. -/
def faults (o : Result) : Bool :=
  match o with
  | .fault _ => true
  | _ => false

/-- Whether a code word decodes to this operation. -/
def reads (cw : CodeWord) (i : Instr) : Bool :=
  match decode Config.binding cw with
  | .ok j => j == i
  | .error _ => false

/-- Whether a code word is rejected for this reason. -/
def rejects (cw : CodeWord) (e : DecodeError) : Bool :=
  match decode Config.binding cw with
  | .ok _ => false
  | .error e' => e' == e

/-- Binding E right after reset, with a word in `RCU_CLKEN`. -/
def gated (w : Word) : State := { State.reset with rcuClken := w }

/-- The end state of program P1 but for its histories: clocks on, both pins configured, the link running. -/
def serving : State :=
  { State.reset with
    rcuClken := 0x4005#32, gpioCtl1 := 0x444444B4#32, usartBaud := 0x45#32, usartCtl0 := 0x200C#32
    upc := 7#4, tmp := 0x444444B4#32 }

/-- Binding B of spec/95_test_vectors.md: the two pins in different registers. -/
def bindingB : Params :=
  { Config.binding with
    rcuBase := 0x10000000#32, gpioBase := 0x10001000#32, usartBase := 0x10002000#32, txPin := 2#4, rxPin := 11#4
    gpioCtl0Reset := 0x12345678#32, gpioCtl1Reset := 0xDEADBEEF#32, usartBaudReset := 0xFFFFFFFF#32 }

/-! ### Well-formedness: an ill-formed term for each check -/

theorem test_illFormed_statusWrite : (Instr.wrUsartStat 0#32).wellFormed = false := by decide
theorem test_illFormed_baudZero : (Instr.wrUsartBaud 0#32).wellFormed = false := by decide
theorem test_illFormed_baudAboveField : (Instr.wrUsartBaud 0x10000#32).wellFormed = false := by decide
theorem test_illFormed_controlBitZero : (Instr.wrUsartCtl0 0x200D#32).wellFormed = false := by decide
theorem test_illFormed_initZero : (Instr.init 0#32).wellFormed = false := by decide
theorem test_illFormed_initAboveField : (Instr.init 0x10000#32).wellFormed = false := by decide
theorem test_wellFormed_boundaries :
    (Instr.wrUsartBaud 1#32).wellFormed = true ∧ (Instr.wrUsartBaud 0xFFFF#32).wellFormed = true ∧
      (Instr.wrUsartCtl0 0x200C#32).wellFormed = true ∧ (Instr.init 1#32).wellFormed = true ∧
      (Instr.init 0xFFFF#32).wellFormed = true := by decide
theorem test_binding_legal : Config.binding.legal = true ∧ bindingB.legal = true := by decide
theorem test_illFormed_rcuBase : ({ Config.binding with rcuBase := 0x40021002#32 } : Params).legal = false := by decide
theorem test_illFormed_gpioBase : ({ Config.binding with gpioBase := 0x40010801#32 } : Params).legal = false := by decide
theorem test_illFormed_usartBase : ({ Config.binding with usartBase := 0x40013803#32 } : Params).legal = false := by decide
theorem test_illFormed_overlap : ({ Config.binding with usartBase := 0x40010800#32 } : Params).legal = false := by decide
theorem test_illFormed_samePin : ({ Config.binding with rxPin := 9#4 } : Params).legal = false := by decide
/-- V-DIV-6. -/
theorem test_illFormed_divisorZero : ({ Config.binding with clockFreq := 115199 } : Params).legal = false := by decide
theorem test_illFormed_divisorAboveField :
    ({ Config.binding with clockFreq := 65536 * 115200 } : Params).legal = false := by decide

/-! ### Decoding: words written out from the spec's encodings -/

/-- The fourteen keys of R76, written out; a write's data word is carried through. -/
theorem test_decode_keys :
    reads (.port (.key 0b00011000#8 0#32)) .rdRcuClken = true ∧
    reads (.port (.key 0b10011000#8 7#32)) (.wrRcuClken 7#32) = true ∧
    reads (.port (.key 0b00100000#8 0#32)) .rdGpioCtl0 = true ∧
    reads (.port (.key 0b10100000#8 7#32)) (.wrGpioCtl0 7#32) = true ∧
    reads (.port (.key 0b00100100#8 0#32)) .rdGpioCtl1 = true ∧
    reads (.port (.key 0b10100100#8 7#32)) (.wrGpioCtl1 7#32) = true ∧
    reads (.port (.key 0b01000000#8 0#32)) .rdUsartStat = true := by decide
theorem test_decode_keys_usart :
    reads (.port (.key 0b11000000#8 7#32)) (.wrUsartStat 7#32) = true ∧
    reads (.port (.key 0b01000100#8 0#32)) .rdUsartData = true ∧
    reads (.port (.key 0b11000100#8 7#32)) (.wrUsartData 7#32) = true ∧
    reads (.port (.key 0b01001000#8 0#32)) .rdUsartBaud = true ∧
    reads (.port (.key 0b11001000#8 7#32)) (.wrUsartBaud 7#32) = true ∧
    reads (.port (.key 0b01001100#8 0#32)) .rdUsartCtl0 = true ∧
    reads (.port (.key 0b11001100#8 7#32)) (.wrUsartCtl0 7#32) = true := by decide
/-- The five selectors of R88; the OP words of programs P1 and V-SER-3. -/
theorem test_decode_ops :
    reads (.port (.op 0b00000000000000000000100000000000101#35)) (.enable 0x4005#32) = true ∧
    reads (.port (.op 0b00100000000000000000000000010011011#35)) (.configure 9#4 0xB#4) = true ∧
    reads (.port (.op 0b00100000000000000000000000010100100#35)) (.configure 10#4 0x4#4) = true ∧
    reads (.port (.op 0b01000000000000000000000000001000101#35)) (.init 69#32) = true ∧
    reads (.port (.op 0b01100000000000000000000000000000000#35)) .receive = true ∧
    reads (.port (.op 0b10000000000000000000000000001000001#35)) (.transmit 0x41#32) = true := by decide
/-- The eleven values of `upc` (R89). -/
theorem test_decode_upc :
    reads (.uop 0b0000#4) .clkEn = true ∧ reads (.uop 0b0001#4) .txpRd = true ∧ reads (.uop 0b0010#4) .txpWr = true ∧
    reads (.uop 0b0011#4) .rxpRd = true ∧ reads (.uop 0b0100#4) .rxpWr = true ∧ reads (.uop 0b0101#4) .baudWr = true ∧
    reads (.uop 0b0110#4) .ctlWr = true ∧ reads (.uop 0b0111#4) .rxPoll = true ∧ reads (.uop 0b1000#4) .rxRead = true ∧
    reads (.uop 0b1001#4) .txPoll = true ∧ reads (.uop 0b1010#4) .txWrite = true := by decide
/-- The reserved words of R91. -/
theorem test_decode_reserved :
    rejects (.port (.op 0x500000000#35)) .reservedSelector = true ∧
    rejects (.port (.op 0x700000000#35)) .reservedSelector = true ∧
    rejects (.port (.op 0x10000019B#35)) .reservedOperandBits = true ∧
    rejects (.port (.op 0x300000001#35)) .reservedOperandBits = true ∧
    rejects (.port (.key 0x60#8 0#32)) .unmapped = true ∧ rejects (.port (.key 0x19#8 0#32)) .unmapped = true ∧
    rejects (.uop 0b1011#4) (.illegalUpc 11#4) = true ∧ rejects (.uop 0b1111#4) (.illegalUpc 15#4) = true := by decide
/-- V-BUS-18, V-BUS-19, R54, and an address of R51. -/
theorem test_decode_addresses :
    rejects (.port (.bus ⟨.read, 4, 0x40013810#32, 0#32⟩)) .unmapped = true ∧
    rejects (.port (.bus ⟨.read, 4, 0x40013802#32, 0#32⟩)) .misaligned = true ∧
    rejects (.port (.bus ⟨.read, 2, 0x40013800#32, 0#32⟩)) .width = true ∧
    reads (.port (.bus ⟨.write, 4, 0x40021018#32, 0x4005#32⟩)) (.wrRcuClken 0x4005#32) = true := by decide
/-- A table word of each format, as `decodeTableWord` numbers its bits. -/
theorem test_decode_tableWords :
    decodeTableWord 8 0xC4 = some (.wrUsartData 0#32) ∧ decodeTableWord 8 0x98 = some (.wrRcuClken 0#32) ∧
    decodeTableWord 40 0x10000009B = some (.configure 9#4 0xB#4) ∧ decodeTableWord 40 0x300000000 = some .receive ∧
    decodeTableWord 8 0x0 = some .clkEn ∧ decodeTableWord 8 0xA = some .txWrite ∧
    decodeTableWord 8 0xB = none ∧ decodeTableWord 40 0x500000000 = none := by decide

/-! ### Bus transactions -/

/-- V-BUS-1. -/
theorem test_rdRcuClken : onNext (exec .rdRcuClken State.reset)
    (fun t => t.busLog == [.read 0x40021018#32 0#32] && t.rcuClken == 0#32) = true := by decide
/-- V-BUS-2. -/
theorem test_wrRcuClken : onNext (exec (.wrRcuClken 0xFFFFFFFF#32) State.reset)
    (fun t => t.rcuClken == 0xFFFFFFFF#32 && afen t && paen t && usart0en t) = true := by decide
/-- V-BUS-3. -/
theorem test_rdGpioCtl0 : onNext (exec .rdGpioCtl0 { gated 0x4005#32 with gpioCtl0 := 0x12345678#32 })
    (fun t => t.busLog == [.read 0x40010800#32 0x12345678#32] && t.gpioCtl0 == 0x12345678#32) = true := by decide
/-- V-BUS-4. -/
theorem test_rdGpioCtl0_gated : onNext (exec .rdGpioCtl0 (gated 0x4001#32))
    (fun t => t.fault == some ⟨.clockNotReady, some 0#4, some 0x40010800#32⟩ && t.err.clock && t.busLog == []) = true := by
  decide
theorem test_wrGpioCtl0 : onNext (exec (.wrGpioCtl0 0xB0000000#32) (gated 0x4005#32))
    (fun t => t.gpioCtl0 == 0xB0000000#32 && t.gpioCtl1 == 0x44444444#32 && pinCfg t 7#4 == 0xB#4) = true := by decide
theorem test_rdGpioCtl1 : onNext (exec .rdGpioCtl1 (gated 0x4005#32))
    (fun t => t.busLog == [.read 0x40010804#32 0x44444444#32]) = true := by decide
/-- V-BUS-21. -/
theorem test_wrGpioCtl1 : onNext (exec (.wrGpioCtl1 0#32) (gated 0x4005#32))
    (fun t => t.gpioCtl1 == 0#32 && t.gpioCtl0 == 0x44444444#32 && pinCfg t 8#4 == 0#4 && pinCfg t 15#4 == 0#4) = true := by
  decide
/-- V-BUS-6 and V-BUS-7: the two flags of the status word, whatever the draw. -/
theorem test_statusWord (d : Word) :
    (statWord d false true).getLsbD 5 = false ∧ (statWord d false true).getLsbD 7 = true ∧
    (statWord d true false).getLsbD 5 = true ∧ (statWord d true false).getLsbD 7 = false := by
  refine ⟨?_, ?_, ?_, ?_⟩ <;> rw [statWord_getLsbD _ _ _ _ (by omega)] <;> rfl
theorem test_rdUsartStat_gated : onNext (exec .rdUsartStat (gated 0x0005#32))
    (fun t => t.fault == some ⟨.clockNotReady, some 0#4, some 0x40013800#32⟩) = true := by decide
/-- V-BUS-12. -/
theorem test_wrUsartStat : refuses (exec (.wrUsartStat 0#32) serving) .statusReadOnly = true := by decide
/-- V-BUS-8. -/
theorem test_rdUsartData : onNext (exec .rdUsartData { serving with rxFull := true, rxBuf := 0x0FF#9 })
    (fun t => t.busLog == [.read 0x40013804#32 0xFF#32] && !t.rxFull && t.rxBuf == 0x0FF#9) = true := by decide
/-- V-BUS-10. -/
theorem test_wrUsartData : onNext (exec (.wrUsartData 0xFFFFFF41#32) serving)
    (fun t => t.txBuf == 0x141#9 && t.txFull && (txTake t).txLog == [.taken 0x41#8]) = true := by decide
/-- V-BUS-11. -/
theorem test_wrUsartData_full :
    refuses (exec (.wrUsartData 0x42#32) { serving with txFull := true }) .transmitBufferFull = true := by decide
theorem test_rdUsartBaud : onNext (exec .rdUsartBaud serving)
    (fun t => t.busLog == [.read 0x40013808#32 0x45#32]) = true := by decide
/-- V-BUS-15, V-BUS-13, V-BUS-14. -/
theorem test_wrUsartBaud :
    onNext (exec (.wrUsartBaud 0xFFFF#32) serving) (fun t => t.usartBaud == 0xFFFF#32) = true ∧
    refuses (exec (.wrUsartBaud 0#32) serving) .divisorOutOfRange = true ∧
    refuses (exec (.wrUsartBaud 0x10000#32) serving) .divisorOutOfRange = true := by decide
/-- V-BUS-5. -/
theorem test_wrUsartBaud_gated : onNext (exec (.wrUsartBaud 69#32) (gated 0x0005#32))
    (fun t => t.fault == some ⟨.clockNotReady, some 0#4, some 0x40013808#32⟩ && t.usartBaud == 0#32) = true := by decide
/-- V-BUS-20. -/
theorem test_rdUsartCtl0 : onNext (exec .rdUsartCtl0 serving)
    (fun t => t.busLog == [.read 0x4001380C#32 0x200C#32]) = true := by decide
/-- V-BUS-17, V-BUS-16. -/
theorem test_wrUsartCtl0 :
    onNext (exec (.wrUsartCtl0 0x2008#32) serving) (fun t => uen t && ten t && !ren t && !rxEnabled t && txEnabled t) = true ∧
    refuses (exec (.wrUsartCtl0 0x200D#32) serving) .unknownControlBits = true := by decide

/-! ### Driver operations -/

/-- V-CLK-2. -/
theorem test_enable : onNext (exec (.enable 0x4000#32) (gated 4#32))
    (fun t => t.rcuClken == 0x4000#32 && !paen t && t.busLog == [.write 0x40021018#32 0x4000#32]) = true := by decide
/-- V-PIN-4, V-PIN-6, V-PIN-8, V-PIN-15: the inserted word. -/
theorem test_insertField :
    insertField 0xFFFFFFFF#32 7#4 0x0#4 = 0x0FFFFFFF#32 ∧ insertField 0xFFFFFFFF#32 8#4 0x4#4 = 0xFFFFFFF4#32 ∧
    insertField 0xDEADBEEF#32 12#4 0x9#4 = 0xDEA9BEEF#32 ∧ insertField 0x80000000#32 7#4 0x7#4 = 0x70000000#32 := by decide
/-- V-PIN-1, the write back of the word read. -/
theorem test_configure : onNext (exec (.configure 9#4 0xB#4)
      { gated 0x4005#32 with phase := .configureWrite 9#4 0xB#4, tmp := 0x44444444#32 })
    (fun t => t.gpioCtl1 == 0x444444B4#32 && t.gpioCtl0 == 0x44444444#32 && t.phase == .idle &&
      t.busLog == [.write 0x40010804#32 0x444444B4#32]) = true := by decide
/-- P5: a driver operation's fault names no `upc`. -/
theorem test_configure_gated : onNext (exec (.configure 9#4 0xB#4) State.reset)
    (fun t => t.fault == some ⟨.clockNotReady, none, some 0x40010804#32⟩ && t.err.clock && t.busLog == []) = true := by decide
/-- The `pack` vectors of R95. -/
theorem test_pack :
    pack 9#4 0b11#2 0b10#2 = (1, 4, 0xB0#32) ∧ pack 10#4 0b00#2 0b01#2 = (1, 8, 0x400#32) ∧
    pack 15#4 0b11#2 0b10#2 = (1, 28, 0xB0000000#32) ∧ pack 7#4 0b00#2 0b01#2 = (0, 28, 0x40000000#32) := by decide
/-- V-INI-1, its second write. -/
theorem test_init : onNext (exec (.init 69#32) { gated 0x4005#32 with phase := .initControl 69#32, usartBaud := 69#32 })
    (fun t => t.usartCtl0 == 0x200C#32 && rxEnabled t && txEnabled t && t.phase == .idle &&
      t.busLog == [.write 0x4001380C#32 0x200C#32]) = true := by decide
/-- V-INI-2. -/
theorem test_init_gated : onNext (exec (.init 69#32) (gated 5#32))
    (fun t => t.fault == some ⟨.clockNotReady, none, some 0x40013808#32⟩ && t.usartCtl0 == 0#32) = true := by decide
/-- V-SER-1, its last transaction. -/
theorem test_receive_read : onNext (exec .receive { serving with phase := .receiveReady, rxFull := true, rxBuf := 0x41#9 })
    (fun t => t.ch == 0x41#32 && !t.rxFull && t.phase == .idle && t.busLog == [.read 0x40013804#32 0x41#32]) = true := by decide
/-- V-SER-10. -/
theorem test_receive_gated : onNext (exec .receive (gated 5#32))
    (fun t => t.fault == some ⟨.clockNotReady, none, some 0x40013800#32⟩) = true := by decide
/-- V-SER-3, its last transaction. -/
theorem test_transmit_write : onNext (exec (.transmit 0x41#32) { serving with phase := .transmitReady 0x41#32 })
    (fun t => t.txFull && t.txBuf == 0x41#9 && t.phase == .idle && t.busLog == [.write 0x40013804#32 0x41#32]) = true := by
  decide
/-- V-SER-4: the second `transmit` polls on while the buffer is full. -/
theorem test_transmit_waits : onNext (exec (.transmit 0x42#32) { serving with txFull := true })
    (fun t => t.phase == .transmitWaiting 0x42#32 && t.txFull) = true := by
  simp [exec, execTransmit, whenRunning, serving, State.reset, State.resetWith, onNext, busRead, gateOpen_usartStat, usart0en,
    readValue, tbe, State.setPhase, readEffect, State.drawn, State.setTmp, State.logBus]

/-! ### Micro-operations -/

/-- V-SEQ-1, as a machine step from reset. -/
theorem test_clkEn : onNext (step State.reset) (fun t => t.upc == 1#4 && t.rcuClken == 0x4005#32) = true := by decide
/-- P1, step 2. -/
theorem test_txpRd : onNext (exec .txpRd { gated 0x4005#32 with upc := 1#4 }) (fun t =>
    t.upc == 2#4 && t.tmp == 0x44444444#32 && t.busLog == [.read 0x40010804#32 0x44444444#32]) = true := by decide
/-- P2, step 3: the transmit pin in `GPIO_CTL0`. -/
theorem test_txpWr : onNext (exec .txpWr { State.resetWith bindingB with
      rcuClken := 0x4005#32, upc := 2#4, tmp := 0x12345678#32 }) (fun t =>
    t.upc == 3#4 && t.gpioCtl0 == 0x12345B78#32 && t.gpioCtl1 == 0xDEADBEEF#32) = true := by decide
/-- P2, step 4. -/
theorem test_rxpRd : onNext (exec .rxpRd { State.resetWith bindingB with rcuClken := 0x4005#32, upc := 3#4 }) (fun t =>
    t.upc == 4#4 && t.tmp == 0xDEADBEEF#32 && t.busLog == [.read 0x10001004#32 0xDEADBEEF#32]) = true := by decide
/-- P2, step 5. -/
theorem test_rxpWr : onNext (exec .rxpWr { State.resetWith bindingB with
      rcuClken := 0x4005#32, upc := 4#4, tmp := 0xDEADBEEF#32 }) (fun t =>
    t.upc == 5#4 && t.gpioCtl1 == 0xDEAD4EEF#32 && t.gpioCtl0 == 0x12345678#32) = true := by decide
/-- P1, step 6. -/
theorem test_baudWr : onNext (exec .baudWr { gated 0x4005#32 with upc := 5#4 }) (fun t =>
    t.upc == 6#4 && t.usartBaud == 0x45#32 && t.busLog == [.write 0x40013808#32 0x45#32]) = true := by decide
/-- P1, step 7. -/
theorem test_ctlWr : onNext (exec .ctlWr { gated 0x4005#32 with upc := 6#4 }) (fun t =>
    t.upc == 7#4 && t.usartCtl0 == 0x200C#32 && t.busLog == [.write 0x4001380C#32 0x200C#32]) = true := by decide
/-- V-SEQ-2 and V-SEQ-3, one step each. -/
theorem test_rxPoll (full : Bool) : onNext (exec .rxPoll { serving with rxFull := full })
    (fun t => t.upc == (if full then 8#4 else 7#4) && t.rxFull == full && t.busLog.length == 1) = true := by
  cases full <;>
    simp [exec, execRxPoll, microRead, whenRunning, serving, State.reset, State.resetWith, onNext, busRead,
      gateOpen_usartStat, usart0en, readValue, rbne, State.setUpc, readEffect, State.drawn, State.setTmp, State.logBus]
/-- V-SEQ-4. -/
theorem test_rxRead : onNext (exec .rxRead { serving with upc := 8#4, rxFull := true, rxBuf := 0x7E#9 })
    (fun t => t.ch == 0x7E#32 && !t.rxFull && t.upc == 9#4) = true := by decide
/-- V-SEQ-5, one step each. -/
theorem test_txPoll (full : Bool) : onNext (exec .txPoll { serving with upc := 9#4, txFull := full })
    (fun t => t.upc == (if full then 9#4 else 10#4) && t.txFull == full) = true := by
  cases full <;>
    simp [exec, execTxPoll, microRead, whenRunning, serving, State.reset, State.resetWith, onNext, busRead,
      gateOpen_usartStat, usart0en, readValue, tbe, State.setUpc, readEffect, State.drawn, State.setTmp, State.logBus]
/-- V-SEQ-6. -/
theorem test_txWrite : onNext (exec .txWrite { serving with upc := 10#4, ch := 0x7E#32 })
    (fun t => t.txBuf == 0x7E#9 && t.txFull && t.upc == 7#4) = true := by decide

/-! ### The other agents, faults and RESET -/

/-- V-SEQ-7. -/
theorem test_illegalState : onNext (step { State.reset with upc := 12#4 })
    (fun t => t.fault == some ⟨.illegalState, some 12#4, none⟩ && t.upc == 12#4) = true := by decide
/-- V-SER-5, the second arrival, and V-FLT-3. -/
theorem test_overrun :
    onNext (step { serving with rxFull := true, rxBuf := 0x41#9, sched := [.rxArrive 0x42#8 true true] }) (fun t =>
      t.rxBuf == 0x41#9 && t.err == ⟨true, true, true, false⟩ && t.rxHist == [.arrived 0x42#8 true true false]) = true := by
  decide
/-- V-SER-9. -/
theorem test_arrival : onNext (step { serving with sched := [.rxArrive 0xFF#8 false true] })
    (fun t => t.rxBuf == 0x0FF#9 && t.rxFull && t.err == ⟨false, false, true, false⟩) = true := by decide
/-- V-SER-7. -/
theorem test_arrival_disabled : onNext (step { serving with usartCtl0 := 0x2008#32, sched := [.rxArrive 0x41#8 false false] })
    (fun t => t == { serving with usartCtl0 := 0x2008#32 }) = true := by decide
/-- V-SER-8: nothing is taken while the transmitter is disabled. -/
theorem test_take_disabled : onNext (step { serving with usartCtl0 := 0#32, txFull := true, sched := [.txTake] })
    (fun t => t.txFull && t.txLog == []) = true := by decide
/-- P3, step 9, and the line (R139). -/
theorem test_take : onNext (step { serving with txBuf := 0x41#9, txFull := true, sched := [.txTake] })
    (fun t => !t.txFull && t.txBuf == 0x41#9 && t.txLog == [.taken 0x41#8] && t.lineLog == [.taken 0x41#8]) = true := by decide
/-- V-FLT-1. -/
theorem test_fault_stops_seq :
    faults (step { serving with fault := some ⟨.clockNotReady, some 1#4, none⟩ }) = true ∧
    onNext (step { serving with
      fault := some ⟨.clockNotReady, some 1#4, none⟩, sched := [.rxArrive 0x41#8 false false] })
      (fun t => t.rxFull && t.fault.isSome) = true := by decide
/-- V-FLT-2, V-FLT-4. -/
theorem test_reset_step : onNext (step { serving with
      fault := some ⟨.clockNotReady, some 1#4, none⟩, rxFull := true, txFull := true, sched := [.reset] })
    (fun t => t.fault == none && t.upc == 0#4 && !t.rxFull && !t.txFull && t.txLog == [.reset]) = true := by decide
/-- R6, R207: the refusal of illegal parameters is recorded, and the step after it is refused. -/
theorem test_illegalParameters :
    onNext (step (launch { Config.binding with rxPin := 9#4 } [.txTake]))
      (fun t => t.refused == some .illegalParameters && t.upc == 0#4 && t.busLog == [] && t.sched == []) = true ∧
    refuses (step { launch { Config.binding with rxPin := 9#4 } [] with refused := some .illegalParameters })
      .illegalParameters = true := by decide
/-- S3, V-DIV-3, V-DIV-6, V-DIV-7. -/
theorem test_divisor : divisorOf 8000000 115200 = 69 ∧ divisorOf 108000000 115200 = 937 ∧
    divisorOf 115199 115200 = 0 ∧ divisorOf 8000000 122 = 65573 := by decide
/-- R56: byte `i` of a stored word. -/
theorem test_bankByte : bankByte serving 0x4001380C#32 = some 0x0C#8 ∧ bankByte serving 0x4001380D#32 = some 0x20#8 ∧
    bankByte serving 0x40013804#32 = none := by decide

/-! ### Witnesses: for every hypothesis set of a statement, a state and operands that meet it -/

/-- Three characters inside the harness (V-SEQ-9): 0x41 in the transmit buffer, 0x42 in `ch`, 0x43 in the receive buffer. -/
def busy : State :=
  { serving with
    upc := 9#4, ch := 0x42#32, txFull := true, txBuf := 0x41#9, rxFull := true, rxBuf := 0x43#9
    rxHist := [.arrived 0x41#8 false false true, .arrived 0x42#8 false false true, .arrived 0x43#8 true false true]
    busLog := startupTrace Config.binding 0x44444444#32 0x444444B4#32 ++
      [.read 0x40013804#32 0x41#32, .write 0x40013804#32 0x41#32, .read 0x40013804#32 0x42#32] }

/-- Between the read and the write of the transmit pin's configuration, with other transactions before a RESET. -/
def configuring : State :=
  { gated 0x4005#32 with
    upc := 2#4, tmp := 0x44444444#32
    busLog := [.read 0x40013800#32 0x80#32, .reset, .write 0x40021018#32 0x4005#32, .read 0x40010804#32 0x44444444#32] }

/-- A recorded fault. -/
def record : FaultRecord := ⟨.clockNotReady, some 1#4, some 0x40010804#32⟩

/-- `SEQ` and `PHY_TX` by turns. -/
def byTurns (k : Nat) : Turn := if k % 2 = 0 then .seq else .txTake

theorem witness_AcceptedWordIsTheEncoding :
    decodeOp 0x10000009B#35 = .ok (.configure 9#4 0xB#4) ∧ decodeUop 10#4 = .ok .txWrite ∧
    decodeKey 0xC4#8 0x41#32 = .ok (.wrUsartData 0x41#32) ∧ decodeKey 0x18#8 5#32 = .ok .rdRcuClken :=
  ⟨rfl, rfl, rfl, rfl⟩
theorem witness_BusAddressSelectsTheRegister :
    Config.binding.legal = true ∧ (⟨.read, 2, 0x40013800#32, 0#32⟩ : BusItem).width ≠ 4 ∧
    (0x40013801#32).toNat % 4 ≠ 0 ∧ (0x40013803#32).toNat % 4 ≠ 0 ∧
    (0x40013810#32).toNat % 4 = 0 ∧ ∀ r, 0x40013810#32 ≠ addrOf Config.binding r :=
  ⟨by decide, by decide, by decide, by decide, by decide, fun r => by cases r <;> decide⟩
theorem witness_ReservedEncodingsAreRejected :
    5 ≤ (opSelector 0x500000000#35).toNat ∧ 5 ≤ (opSelector 0x7FFFFFFFF#35).toNat ∧
    0x100#32 >>> 8 ≠ 0#32 ∧ 0xFFFFFFFF#32 >>> 8 ≠ 0#32 ∧ 1#32 ≠ 0#32 ∧
    (0x19#8 ∉ [0x18#8, 0x98#8, 0x20#8, 0xA0#8, 0x24#8, 0xA4#8, 0x40#8, 0xC0#8, 0x44#8, 0xC4#8, 0x48#8, 0xC8#8, 0x4C#8,
      0xCC#8]) ∧ 11 ≤ (11#4).toNat ∧ 11 ≤ (15#4).toNat := by decide
theorem witness_StepRunsTheDecodedInstruction :
    State.reset.params.legal = true ∧ Running State.reset ∧ State.reset.port = [] ∧ State.reset.sched = [] ∧
    decode State.reset.params (fetch State.reset) = .ok .clkEn ∧
    decode State.reset.params (fetch { State.reset with port := [.op 0x000004005#35], sched := [.seq] }) =
      .ok (.enable 0x4005#32) := ⟨by decide, by decide, rfl, rfl, rfl, rfl⟩
theorem witness_FinishedItemLeavesThePort :
    serving.fault = none ∧ serving.phase = .idle ∧ ({ serving with phase := .receiveWaiting } : State).phase ≠ .idle ∧
    ({ serving with fault := some record } : State).fault ≠ none := by decide
theorem witness_TableWordRunsNext :
    State.reset.params.legal = true ∧ Running State.reset ∧ decodeTableWord 8 0x98 = some (.wrRcuClken 0#32) ∧
    decodeTableWord 40 0x10000009B = some (.configure 9#4 0xB#4) ∧ decodeTableWord 8 0x5 = some .baudWr := by decide
theorem witness_ClockEnableTransactions : Running State.reset := by decide
theorem witness_GpioReadTransactions : Running (gated 0x4005#32) := by decide
theorem witness_GpioWriteTransactions :
    (Running (gated 0x4005#32) ∧ paen (gated 0x4005#32) = true) ∧ (7#4).toNat < 8 ∧ 8 ≤ (8#4).toNat ∧
    (Running (gated 0x4001#32) ∧ paen (gated 0x4001#32) = false) := by decide
theorem witness_StatusReadTransaction :
    (Running serving ∧ usart0en serving = true) ∧ (Running (gated 5#32) ∧ usart0en (gated 5#32) = false) := by decide
theorem witness_StatusWriteIsRefused : Running serving := by decide
theorem witness_DataTransactions : Running busy ∧ Running serving := by decide
theorem witness_BaudTransactions :
    (Running serving ∧ usart0en serving = true) ∧ (1 ≤ (1#32).toNat ∧ (1#32).toNat ≤ 0xFFFF) ∧
    (1 ≤ (0xFFFF#32).toNat ∧ (0xFFFF#32).toNat ≤ 0xFFFF) ∧ 0xFFFF < (0x10000#32).toNat ∧
    (Running (gated 5#32) ∧ usart0en (gated 5#32) = false) := by decide
theorem witness_ControlTransactions :
    (Running serving ∧ usart0en serving = true) ∧
    (0x200C#32 ∈ [0x0000#32, 0x0004#32, 0x0008#32, 0x000C#32, 0x2000#32, 0x2004#32, 0x2008#32, 0x200C#32]) ∧
    (0x200D#32 ∉ [0x0000#32, 0x0004#32, 0x0008#32, 0x000C#32, 0x2000#32, 0x2004#32, 0x2008#32, 0x200C#32]) ∧
    (Running (gated 5#32) ∧ usart0en (gated 5#32) = false) := by decide
theorem witness_EnableOverwrites : Running (gated 4#32) := by decide
theorem witness_EnableTwiceIsEnableOnce : Running State.reset := by decide
/-- Pin 7 and pin 8 are the boundary of the two registers; every pin meets the hypotheses. -/
theorem witness_ConfigureReadsThenWritesBack :
    (Running serving ∧ paen serving = true ∧ serving.phase ≠ .configureWrite 7#4 0xB#4) ∧
    (Running { serving with phase := .configureWrite 8#4 0xB#4 } ∧ paen { serving with phase := .configureWrite 8#4 0xB#4 } = true) ∧
    (Running (gated 0x4001#32) ∧ paen (gated 0x4001#32) = false) := by decide
theorem witness_ConfigurePreservesOtherPins :
    (Running serving ∧ paen serving = true ∧ serving.phase ≠ .configureWrite 7#4 0xB#4) ∧ (6#4 ≠ 7#4) ∧ (8#4 ≠ 7#4) ∧
    (7#4).toNat < 8 ∧ 8 ≤ (8#4).toNat := by decide
theorem witness_InitWritesBaudThenControl :
    (Running serving ∧ usart0en serving = true ∧ serving.phase ≠ .initControl 1#32 ∧ serving.phase ≠ .initControl 0xFFFF#32) ∧
    (1 ≤ (0xFFFF#32).toNat ∧ (0xFFFF#32).toNat ≤ 0xFFFF) ∧ 0xFFFF < (0x10000#32).toNat ∧
    (Running { serving with phase := .initControl 69#32 } ∧ usart0en { serving with phase := .initControl 69#32 } = true) ∧
    (Running (gated 5#32) ∧ usart0en (gated 5#32) = false ∧ (gated 5#32).phase ≠ .initControl 69#32) ∧
    (Running { gated 5#32 with phase := .initControl 69#32 } ∧
      usart0en { gated 5#32 with phase := .initControl 69#32 } = false) := by decide
theorem witness_ReceivePollsThenReads :
    (Running serving ∧ usart0en serving = true ∧ serving.phase ≠ .receiveReady) ∧
    (Running { busy with phase := .receiveReady } ∧ usart0en busy = true ∧ busy.rxFull = true) ∧
    (Running { serving with phase := .receiveReady } ∧ serving.rxFull = false) ∧
    (Running (gated 5#32) ∧ usart0en (gated 5#32) = false ∧ (gated 5#32).phase ≠ .receiveReady) ∧
    (Running { gated 5#32 with phase := .receiveReady } ∧ usart0en { gated 5#32 with phase := .receiveReady } = false) := by
  decide
theorem witness_TransmitPollsThenWrites :
    (Running serving ∧ usart0en serving = true ∧ serving.phase ≠ .transmitReady 0x41#32) ∧
    (Running { serving with phase := .transmitReady 0x41#32 } ∧ serving.txFull = false) ∧
    (Running { busy with phase := .transmitReady 0x41#32 } ∧ usart0en busy = true ∧ busy.txFull = true) ∧
    (Running (gated 5#32) ∧ usart0en (gated 5#32) = false ∧ (gated 5#32).phase ≠ .transmitReady 0x41#32) ∧
    (Running { gated 5#32 with phase := .transmitReady 0x41#32 } ∧
      usart0en { gated 5#32 with phase := .transmitReady 0x41#32 } = false) := by decide
theorem witness_PollLoopsWait :
    Running serving ∧ usart0en serving = true ∧ serving.rxFull = false ∧ serving.phase ≠ .receiveReady ∧
    Running busy ∧ usart0en busy = true ∧ busy.txFull = true ∧ busy.phase ≠ .transmitReady 0x41#32 := by decide
theorem witness_ClockEnableMicroOperation : Running State.reset := by decide
theorem witness_PinReadMicroOperations : Running (gated 0x4005#32) ∧ Running (gated 0x4001#32) := by decide
theorem witness_PinWriteMicroOperations :
    (Running (gated 0x4005#32) ∧ paen (gated 0x4005#32) = true) ∧
    (Running (gated 0x4001#32) ∧ paen (gated 0x4001#32) = false) := by decide
theorem witness_InitMicroOperations :
    (Running serving ∧ usart0en serving = true ∧ divisorLegal (divisorWord serving.params) = true) ∧
    divisorLegal (divisorWord { Config.binding with clockFreq := 115199 }) = false ∧
    (Running (gated 5#32) ∧ usart0en (gated 5#32) = false) := by decide
theorem witness_PollMicroOperations :
    (Running serving ∧ usart0en serving = true) ∧ (Running (gated 5#32) ∧ usart0en (gated 5#32) = false) := by decide
theorem witness_DataMicroOperations :
    (Running busy ∧ usart0en busy = true ∧ busy.rxFull = true ∧ busy.txFull = true) ∧
    (Running serving ∧ usart0en serving = true ∧ serving.rxFull = false ∧ serving.txFull = false) ∧
    (Running (gated 5#32) ∧ usart0en (gated 5#32) = false) := by decide
theorem witness_IllegalStateIsRecorded :
    serving.params.legal = true ∧ Running { serving with upc := 11#4 } ∧ serving.port = [] ∧ serving.sched = [] ∧
    11 ≤ (11#4).toNat ∧ 11 ≤ (15#4).toNat := by decide
theorem witness_CharacterArrives :
    serving.params.legal = true ∧ serving.refused = none ∧
    ({ serving with sched := [.rxArrive 0x41#8 false false] } : State).sched = .rxArrive 0x41#8 false false :: [] ∧
    rxEnabled serving = true ∧ serving.rxFull = false ∧ rxEnabled busy = true ∧ busy.rxFull = true := by decide
theorem witness_PendingCharacterIsTaken :
    busy.params.legal = true ∧ busy.refused = none ∧ ({ busy with sched := [.txTake] } : State).sched = .txTake :: [] ∧
    txEnabled busy = true ∧ busy.txFull = true ∧ pinCfg busy busy.params.txPin = 0xB#4 ∧
    busy.rcuClken.getLsbD 0 = true ∧ busy.rcuClken.getLsbD 2 = true := by decide
theorem witness_DisabledPhyTurnsPass :
    serving.params.legal = true ∧ serving.refused = none ∧
    ({ serving with usartBaud := 0#32 } : State).usartBaud = 0#32 ∧ 0xFFFF < (0x10000#32).toNat ∧
    (gated 5#32).rcuClken.getLsbD 14 = false ∧ (gated 5#32).usartCtl0.getLsbD 13 = false ∧
    (gated 5#32).usartCtl0.getLsbD 2 = false ∧ (gated 5#32).usartCtl0.getLsbD 3 = false ∧ serving.txFull = false := by decide
theorem witness_ConnectedLineIsReceived :
    pinCfg serving serving.params.rxPin = 0x4#4 ∧ serving.rcuClken.getLsbD 0 = true ∧
    serving.rcuClken.getLsbD 2 = true := by decide
theorem witness_FlagsAreStable :
    onNext (step { serving with upc := 8#4, rxFull := true }) (fun t => !t.rxFull) = true ∧
    onNext (step { busy with sched := [.reset] }) (fun t => !t.rxFull && !t.txFull) = true ∧
    onNext (step { serving with sched := [.rxArrive 0x44#8 false false] }) (fun t => t.rxFull) = true ∧
    onNext (step { serving with sched := [.lineRx 0x44#8 false false] }) (fun t => t.rxFull) = true ∧
    onNext (step { busy with sched := [.rxArrive 0x44#8 false false] }) (fun t => t.rxFull && t.txFull) = true ∧
    onNext (step { serving with upc := 10#4 }) (fun t => t.txFull) = true ∧
    onNext (step { busy with sched := [.txTake] }) (fun t => !t.txFull) = true := by decide
theorem witness_FaultHasNoOtherEffect :
    onNext (exec .rdGpioCtl0 (gated 0x4001#32)) (fun t => t.fault.isSome) = true ∧
    onNext (exec (.init 69#32) (gated 5#32)) (fun t => t.fault.isSome) = true := by decide
theorem witness_FaultStopsOnlyTheSequencer :
    serving.params.legal = true ∧ serving.refused = none ∧ ({ serving with fault := some record } : State).fault = some record ∧
    onNext (step { busy with fault := some record, sched := [.txTake] }) (fun t => t.fault == some record) = true := by decide
theorem witness_RefusalIsRecordedAndFinal :
    (serving.params.legal = true ∧ Running serving ∧ serving.sched = []) ∧
    refuses (exec .txWrite { busy with upc := 10#4 }) .transmitBufferFull = true ∧
    rejects (fetch { serving with port := [.op 0x500000000#35] }) .reservedSelector = true ∧
    DecodeError.refusal .reservedSelector = some .reservedSelector ∧
    ({ serving with refused := some .unmapped } : State).refused = some .unmapped ∧
    (∀ rest, serving.sched ≠ .reset :: rest) :=
  ⟨by decide, by decide, by decide, rfl, rfl, fun _ h => nomatch h⟩
theorem witness_IllegalParametersAreRefused :
    (∀ rest, serving.sched ≠ .reset :: rest) ∧ serving.refused = none ∧
    ({ serving with refused := some .unmapped } : State).refused = some .unmapped ∧
    ({ Config.binding with rxPin := 9#4 } : Params).txPin = ({ Config.binding with rxPin := 9#4 } : Params).rxPin ∧
    addrOf { Config.binding with usartBase := 0x40010800#32 } .gpioCtl0 =
      addrOf { Config.binding with usartBase := 0x40010800#32 } .usartStat ∧
    (addrOf { Config.binding with rcuBase := 2#32 } .rcuClken).toNat % 4 ≠ 0 ∧
    115199 / 115200 = 0 ∧ 0xFFFF < 65536 * 115200 / 115200 :=
  ⟨(fun _ h => nomatch h), by decide⟩
theorem witness_ErrorBitsAreSticky :
    onNext (step { serving with err := ⟨true, true, true, true⟩, sched := [.rxArrive 0x41#8 false false] })
      (fun t => t.err == ⟨true, true, true, true⟩) = true ∧
    (∀ rest, [Turn.rxArrive 0x41#8 false false] ≠ .reset :: rest) := ⟨by decide, fun _ h => nomatch h⟩
theorem witness_ResetRestoresTheHarness :
    ({ busy with fault := some record, refused := some .unmapped, sched := [.reset] } : State).sched = .reset :: [] := by
  decide
theorem witness_DivisorAndBitRate :
    0 < 1 ∧ uen serving = true ∧ 1 ≤ serving.usartBaud.toNat ∧ serving.usartBaud.toNat ≤ 0xFFFF ∧ 0xFFFF < (0x10000#32).toNat := by
  decide
/-- A state with a driver operation under way, and a next state. -/
theorem witness_EveryStepKeepsStateInv :
    StateInv { serving with port := [.op 0x300000000#35], phase := .receiveReady, rxFull := true } ∧
    onNext (step { serving with port := [.op 0x300000000#35], phase := .receiveReady, rxFull := true })
      (fun t => t.port == []) = true :=
  ⟨⟨by decide, by decide, by decide, fun i h => ⟨_, _, rfl, by cases h; rfl⟩⟩, by decide⟩
theorem witness_HistoriesOnlyGrow : onNext (step State.reset) (fun t => t.busLog.length == 1) = true := by decide
theorem witness_OneTransactionAtMost :
    (onNext (step State.reset) (fun t => t.busLog.length == 1) = true ∧ ∀ rest, State.reset.sched ≠ .reset :: rest) ∧
    onNext (step { busy with sched := [.txTake] }) (fun t => t.busLog == busy.busLog) = true ∧
    (∀ rest, [Turn.txTake] ≠ .reset :: rest) ∧ Turn.txTake ≠ .seq :=
  ⟨⟨by decide, fun _ h => nomatch h⟩, by decide, (fun _ h => nomatch h), by decide⟩
theorem witness_BookkeepingIsNeverRead :
    forgetBookkeeping { serving with err := ⟨true, true, true, true⟩, busLog := [.reset] } = forgetBookkeeping serving := rfl
theorem witness_HarnessInvAtLaunch : Config.binding.legal = true ∧ bindingB.legal = true := by decide
/-- The invariant of a state with three characters inside the harness, and a next state. -/
theorem busy_harnessInv : HarnessInv busy := by
  constructor
  case trace =>
    refine ⟨0x44444444#32, 0x444444B4#32, by decide, fun e he => ?_, by decide, by decide⟩
    rw [show (transactions busy.busLog).drop 7 =
      [.read 0x40013804#32 0x41#32, .write 0x40013804#32 0x41#32, .read 0x40013804#32 0x42#32] by decide] at he
    simp only [List.mem_cons, List.not_mem_nil, or_false] at he
    rcases he with rfl | rfl | rfl
    · exact .inr rfl
    · exact rfl
    · exact .inr rfl
  all_goals decide
/-- The invariant during start-up, where `tmp` holds the word read. -/
theorem configuring_harnessInv : HarnessInv configuring := by
  constructor
  case trace => exact ⟨0x44444444#32, 0#32, by decide, (fun _ he => nomatch he), by decide, by decide⟩
  all_goals decide
theorem witness_EveryStepKeepsHarnessInv : HarnessInv busy ∧
    onNext (step { busy with sched := [.txTake] }) (fun t => !t.txFull) = true ∧ HarnessInv configuring ∧
    onNext (step configuring) (fun t => t.upc == 3#4) = true :=
  ⟨busy_harnessInv, by decide, configuring_harnessInv, by decide⟩
theorem witness_HarnessNeverStops : HarnessInv busy := busy_harnessInv
theorem witness_SentIsAPrefixOfAccepted : Config.binding.legal = true := by decide
theorem witness_StartupTraceOfEveryRun : Config.binding.legal = true ∧
    onNext (step (launch Config.binding [])) (fun t => transactions t.busLog == [.write 0x40021018#32 0x4005#32]) = true := by
  decide
theorem witness_PinsStayConnected : HarnessInv busy ∧ 5 ≤ busy.upc.toNat := ⟨busy_harnessInv, by decide⟩
theorem witness_MicroProgramPerformsTheDriverOperations :
    State.reset.params.legal = true ∧ Running State.reset ∧ State.reset.port = [] ∧ State.reset.phase = .idle ∧
    State.reset.sched = [] ∧ State.reset.upc = 0#4 := by decide
/-- A schedule that is fair to `SEQ` and to `PHY_TX`, and a state with characters to echo. -/
theorem witness_EveryAcceptedCharacterIsEchoed :
    HarnessInv busy ∧ (∀ k, byTurns k ≠ .reset) ∧ SeqFair byTurns ∧ TxFair byTurns busy ∧
    turns byTurns busy 0 = .next busy ∧ acceptedChars busy.rxHist = [0x41#8, 0x42#8, 0x43#8] := by
  refine ⟨busy_harnessInv, fun k => ?_, fun k => ⟨2 * k, by omega, ?_⟩, fun k _ => ⟨2 * k + 1, by omega, ?_⟩, rfl, by decide⟩
  · unfold byTurns; split <;> simp
  · unfold byTurns; rw [if_pos (by omega)]
  · unfold byTurns; rw [if_neg (by omega)]

end Sys2Proof.Tests
end

section
/-! The statements on the model's scope: parameters that violate R5 or R6 are refused (spec/00_scope.md R5, R6;
spec/60_exceptions.md R207), and one turn performs at most one bus transaction (R8, R60, R177). First what legality of
the parameters says of each register, then what each kind of step does to `busLog`. -/

namespace Sys2Proof.Machine

/-! ### Legal parameters -/

/-- The conjuncts of `Params.legal` as propositions (R5, R6, R183). -/
theorem legal_iff (p : Params) : p.legal = true ↔
    (p.rcuBase.toNat % 4 = 0 ∧ p.gpioBase.toNat % 4 = 0 ∧ p.usartBase.toNat % 4 = 0) ∧
      (Reg.all.map (addrOf p)).Nodup ∧ p.txPin ≠ p.rxPin ∧
      1 ≤ p.clockFreq / 115200 ∧ p.clockFreq / 115200 ≤ 0xFFFF := by
  simp only [Params.legal, aligned, Bool.and_eq_true, beq_iff_eq, bne_iff_ne, decide_eq_true_eq, and_assoc]
  rfl

theorem reg_mem_all (r : Reg) : r ∈ Reg.all := by
  cases r <;> decide

/-- Every offset of the address map is a multiple of 4 (R51). -/
theorem reg_offset_aligned (r : Reg) : r.offset.toNat % 4 = 0 := by
  cases r <;> rfl

theorem base_aligned_of_legal {p : Params} (h : p.legal = true) (b : Block) : (p.base b).toNat % 4 = 0 := by
  obtain ⟨⟨hrcu, hgpio, husart⟩, -⟩ := (legal_iff p).mp h
  cases b with
  | rcu => exact hrcu
  | gpio => exact hgpio
  | usart => exact husart

/-- Base and offset are multiples of 4, and so is the modulus 2^32 of their sum (R6, log 18). -/
theorem addrOf_aligned_of_legal {p : Params} (h : p.legal = true) (r : Reg) : (addrOf p r).toNat % 4 = 0 := by
  have hbase := base_aligned_of_legal h r.block
  have hoff := reg_offset_aligned r
  simp only [addrOf, BitVec.toNat_add, BitVec.toNat_setWidth]
  omega

theorem addrOf_injective_of_legal {p : Params} (h : p.legal = true) : Function.Injective (addrOf p) := by
  obtain ⟨-, hnodup, -⟩ := (legal_iff p).mp h
  exact fun r r' he => List.inj_on_of_nodup_map hnodup (reg_mem_all r) (reg_mem_all r') he

/-- Each way to violate R5 or R6 makes the parameters illegal. -/
theorem legal_eq_false_of_violation {p : Params}
    (hv : p.txPin = p.rxPin ∨ (∃ r r' : Reg, r ≠ r' ∧ addrOf p r = addrOf p r') ∨
      (∃ r : Reg, (addrOf p r).toNat % 4 ≠ 0) ∨ p.clockFreq / 115200 = 0 ∨ 0xFFFF < p.clockFreq / 115200) :
    p.legal = false := by
  rw [← Bool.not_eq_true]
  intro hl
  obtain ⟨-, -, hpins, hpos, hmax⟩ := (legal_iff p).mp hl
  rcases hv with hpin | ⟨r, r', hne, he⟩ | ⟨r, hr⟩ | hzero | hbig
  · exact hpins hpin
  · exact hne (addrOf_injective_of_legal hl he)
  · exact hr (addrOf_aligned_of_legal hl r)
  · omega
  · omega

/-- The first turn but RESET under illegal parameters records the refusal (R207, log 8). -/
theorem step_records_illegalParameters {s : State} (hl : s.params.legal = false)
    (hs : ∀ rest, s.sched ≠ .reset :: rest) (hr : s.refused = none) :
    step s = .next { s with sched := s.sched.tail, refused := some .illegalParameters } := by
  rw [step_of_illegal hl, refusedTurn_eq hs, unlessRefused, hr]
  rfl

/-- A recorded refusal is final under illegal parameters, but for RESET (R207). -/
theorem step_refused_of_illegal {s : State} {r : Refusal} (hl : s.params.legal = false)
    (hs : ∀ rest, s.sched ≠ .reset :: rest) (hr : s.refused = some r) : step s = .refused r := by
  rw [step_of_illegal hl, refusedTurn_eq hs, unlessRefused, hr]

/-- Settles O41: each violation makes `Params.legal` false, and `step` is then `refusedTurn`. -/
theorem illegalParametersAreRefused : Obligations.IllegalParametersAreRefused := by
  intro s hv hs
  have hl := legal_eq_false_of_violation hv
  exact ⟨step_records_illegalParameters hl hs, fun _ => step_refused_of_illegal hl hs⟩

/-! ### What a step does to `busLog` -/

section
variable (s : State)

@[simp] theorem phyTx_busLog : (phyTx s).busLog = s.busLog := by
  unfold phyTx; split <;> simp

@[simp] theorem lineRx_busLog (c : Byte) (fe ne : Bool) : (lineRx c fe ne s).busLog = s.busLog := by
  rcases lineRx_cases s c fe ne with h | ⟨c', fe', ne', h⟩ | h <;> simp [h]

@[simp] theorem working_busLog (n : Nibble) (v c : Word) (ph : OpPhase) :
    (s.working n v c ph).busLog = s.busLog := rfl

@[simp] theorem retire_busLog (cw : CodeWord) : (retire cw s).busLog = s.busLog := by
  rcases retire_eq cw s with h | ⟨h, -⟩ <;> simp [h]

end

/-- `l'` is `l`, or `l` with one read or one write appended (R60). -/
def AtMostOneMore (l l' : List BusEvent) : Prop :=
  l' = l ∨ ∃ a v, l' = l ++ [.read a v] ∨ l' = l ++ [.write a v]

theorem AtMostOneMore.refl (l : List BusEvent) : AtMostOneMore l l := .inl rfl

/-- An operation's next state: none if the gate was closed, else the one read or the one write of its case. -/
theorem ExecCase.busLog_atMostOneMore {i : Instr} {s t : State} (h : ExecCase i s t) :
    AtMostOneMore s.busLog t.busLog := by
  cases h with
  | gated r u _ _ ht => exact .inl (by simp [ht])
  | read r n v c ph _ _ _ ht => exact .inr ⟨addrOf s.params r, readValue r s, .inl (by simp [ht])⟩
  | write r w n v c ph _ _ _ _ ht => exact .inr ⟨addrOf s.params r, w, .inr (by simp [ht])⟩

theorem seqStep_busLog_atMostOneMore {s t : State} (h : seqStep s = .next t) :
    AtMostOneMore s.busLog t.busLog := by
  obtain ⟨-, ⟨i, u, -, he, rfl⟩ | ⟨r, rfl⟩ | ⟨u, -, rfl⟩⟩ := seqStep_next_cases h
  · rw [retire_busLog]
    exact (exec_next_cases he).2.busLog_atMostOneMore
  · exact .refl _
  · exact .inl (raise_busLog ..)

/-- A step but RESET is a `SEQ` step, or leaves `busLog` as it is. -/
theorem step_busLog_cases {s t : State} (h : step s = .next t) (hs : ∀ rest, s.sched ≠ .reset :: rest) :
    t.busLog = s.busLog ∨
      (s.sched = [] ∨ ∃ rest, s.sched = .seq :: rest) ∧ AtMostOneMore s.busLog t.busLog := by
  cases step_next_cases h with
  | seqLast _ hsched ht => exact .inr ⟨.inl hsched, seqStep_busLog_atMostOneMore ht⟩
  | seq _ rest hsched ht => exact .inr ⟨.inr ⟨rest, hsched⟩, seqStep_busLog_atMostOneMore (s := s.setSched rest) ht⟩
  | pass _ rest _ _ ht => exact .inl (by simp [ht])
  | rxArrive _ c fe ne rest _ _ ht => exact .inl (by simp [ht])
  | lineRx _ c fe ne rest _ _ ht => exact .inl (by simp [ht])
  | txTake _ rest _ _ ht => exact .inl (by simp [ht])
  | reset rest hsched _ => exact absurd hsched (hs rest)
  | illegal _ _ _ ht => exact .inl (by simp [ht])

/-- Settles O51: only a `SEQ` turn can append to `busLog`, and an operation's step appends one entry at most. -/
theorem oneTransactionAtMost : Obligations.OneTransactionAtMost := by
  intro s t h hs
  rcases step_busLog_cases h hs with hkept | ⟨hseq, hmore⟩
  · exact ⟨.inl hkept, fun _ _ _ _ => hkept⟩
  · refine ⟨hmore, fun turn rest hsched hne => ?_⟩
    rcases hseq with hnil | ⟨rest', hcons⟩
    · cases hnil.symm.trans hsched
    · cases hcons.symm.trans hsched
      exact absurd rfl hne

end Sys2Proof.Machine
end

section
/-! What every case of a step says of the fields: the layer the statements on the state share. `ExecCase` and `StepCase`
(Laws/Step) stay the case splits; here `retire` and the PHY turns are brought into the same shape. -/

namespace Sys2Proof.Machine

/-! ### The working registers -/

section
variable (s : State) (n : Nibble) (v c : Word) (ph : OpPhase)

@[simp] theorem working_usartBaud : (s.working n v c ph).usartBaud = s.usartBaud := rfl
@[simp] theorem working_usartCtl0 : (s.working n v c ph).usartCtl0 = s.usartCtl0 := rfl
@[simp] theorem working_rxBuf : (s.working n v c ph).rxBuf = s.rxBuf := rfl
@[simp] theorem working_rxFull : (s.working n v c ph).rxFull = s.rxFull := rfl
@[simp] theorem working_txBuf : (s.working n v c ph).txBuf = s.txBuf := rfl
@[simp] theorem working_txFull : (s.working n v c ph).txFull = s.txFull := rfl
@[simp] theorem working_err : (s.working n v c ph).err = s.err := rfl
@[simp] theorem working_upc : (s.working n v c ph).upc = n := rfl
@[simp] theorem working_rxHist : (s.working n v c ph).rxHist = s.rxHist := rfl
@[simp] theorem working_txLog : (s.working n v c ph).txLog = s.txLog := rfl
@[simp] theorem working_params : (s.working n v c ph).params = s.params := rfl
@[simp] theorem working_lineLog : (s.working n v c ph).lineLog = s.lineLog := rfl
@[simp] theorem working_port : (s.working n v c ph).port = s.port := rfl
@[simp] theorem working_phase : (s.working n v c ph).phase = ph := rfl

end

/-! ### One `SEQ` step, with `retire` seen as a new port -/

/-- Taking a finished item off changes the port alone (R194). -/
theorem retire_eq_setPort (cw : CodeWord) (t : State) : ∃ l, retire cw t = t.setPort l := by
  rcases retire_eq cw t with h | ⟨h, -⟩
  · exact ⟨t.port, h⟩
  · exact ⟨_, h⟩

/-- A `SEQ` step but for what it does to the port: one operation's case, a recorded refusal, or `IllegalState`. -/
theorem seqStep_exec_cases {s t : State} (h : seqStep s = .next t) :
    (∃ i u l, ExecCase i s u ∧ t = u.setPort l) ∨ (∃ r, t = s.markRefused r) ∨
      t = raise .illegalState (some s.upc) none s := by
  obtain ⟨-, ⟨i, u, -, he, rfl⟩ | ⟨r, rfl⟩ | ⟨u, -, rfl⟩⟩ := seqStep_next_cases h
  · obtain ⟨l, hl⟩ := retire_eq_setPort (fetch s) u
    exact .inl ⟨i, u, l, (exec_next_cases he).2, hl⟩
  · exact .inr (.inl ⟨r, rfl⟩)
  · exact .inr (.inr rfl)

/-! ### The PHY turns -/

/-- A `PHY_RX` turn passes, or its character arrives (R169). -/
theorem phyRx_cases (c : Byte) (fe ne : Bool) (s : State) :
    phyRx c fe ne s = s ∨ phyRx c fe ne s = rxArrive c fe ne s := by
  unfold phyRx; split
  · exact .inr rfl
  · exact .inl rfl

/-- A `PHY_TX` turn passes, or takes a pending character (R168, R169). -/
theorem phyTx_cases (s : State) : phyTx s = s ∨ s.txFull = true ∧ phyTx s = txTake s := by
  unfold phyTx; split
  · rename_i h
    rw [Bool.and_eq_true] at h
    exact .inr ⟨h.2, rfl⟩
  · exact .inl rfl

theorem driveLine_lineLog_prefix (c : Byte) (s : State) : s.lineLog <+: (driveLine c s).lineLog := by
  unfold driveLine; split
  · exact List.prefix_append ..
  · split
    · exact List.prefix_append ..
    · exact List.prefix_rfl

/-! ### The two buffers under a transaction -/

/-- A read transaction lowers `rx_full` where it is the `USART_DATA` read of a full buffer, and nowhere else (R59,
R109). -/
theorem readEffect_rxFull_cases (r : Reg) (s : State) : (readEffect r s).rxFull = s.rxFull ∨
    r = .usartData ∧ s.rxFull = true ∧ (readEffect r s).rxFull = false := by
  cases r with
  | usartData =>
    cases hf : s.rxFull with
    | false => exact .inl (by simp [readEffect, hf])
    | true => exact .inr ⟨rfl, rfl, by simp [readEffect, hf]⟩
  | _ => exact .inl rfl

/-- The `USART_DATA` read of a full buffer returns the buffered character (R109). -/
theorem readValue_usartData {s : State} (h : s.rxFull = true) : readValue .usartData s = s.rxBuf.setWidth 32 := by
  simp [readValue, h]

/-- A permitted write transaction fills `tx_buf` where it is the `USART_DATA` write, and nowhere else (R110). -/
theorem writeEffect_tx_cases {r : Reg} {w : Word} {s : State} (h : writeRefusal r w s = none) :
    ((writeEffect r w s).txFull = s.txFull ∧ (writeEffect r w s).txBuf = s.txBuf) ∨
      r = .usartData ∧ s.txFull = false ∧ (writeEffect r w s).txFull = true ∧
        (writeEffect r w s).txBuf = w.setWidth 9 := by
  cases r with
  | usartData =>
    refine .inr ⟨rfl, by simpa [writeRefusal] using h, rfl, ?_⟩
    exact BitVec.setWidth_eq_extractLsb' (by omega) |>.symm
  | _ => exact .inl ⟨rfl, rfl⟩

/-- A permitted write leaves `USART_CTL0` as it is or with a legal word (R28, R114). -/
theorem writeEffect_usartCtl0_cases {r : Reg} {w : Word} {s : State} (h : writeRefusal r w s = none) :
    (writeEffect r w s).usartCtl0 = s.usartCtl0 ∨ ctlLegal (writeEffect r w s).usartCtl0 = true := by
  cases r with
  | usartCtl0 => exact .inr (by simpa [writeRefusal, writeEffect] using h)
  | _ => exact .inl rfl

/-- A permitted write leaves `USART_BAUD` as it is or with a legal divisor (R26, R112). -/
theorem writeEffect_usartBaud_cases {r : Reg} {w : Word} {s : State} (h : writeRefusal r w s = none) :
    (writeEffect r w s).usartBaud = s.usartBaud ∨ divisorLegal (writeEffect r w s).usartBaud = true := by
  cases r with
  | usartBaud => exact .inr (by simpa [writeRefusal, writeEffect] using h)
  | _ => exact .inl rfl

end Sys2Proof.Machine
end

section
/-! The invariant of every state (spec/10_state.md R26, R28, R34; spec/42_pin_configure.md R135;
spec/45_main_sequencer.md R189): it holds at launch, and each case of a step keeps it. -/

namespace Sys2Proof.Machine

/-! ### Driver operations arrive as OP words -/

/-- The operations of the driver-operation interface (R88): the only ones that can be under way between two steps. -/
def isDriverOp : Instr → Bool
  | .enable _ | .configure _ _ | .init _ | .receive | .transmit _ => true
  | _ => false

theorem isDriverOp_of_phaseOwner {ph : OpPhase} {i : Instr} (h : phaseOwner ph = some i) : isDriverOp i = true := by
  cases ph <;> cases h <;> rfl

theorem not_isDriverOp_busInstr (d : Dir) (r : Reg) (v : Word) : isDriverOp (busInstr d r v) = false := by
  cases d <;> cases r <;> rfl

theorem not_isDriverOp_of_decodeUop {u : Nibble} {i : Instr} (h : decodeUop u = .ok i) : isDriverOp i = false := by
  unfold decodeUop at h
  split at h <;> cases h <;> rfl

theorem not_isDriverOp_of_decodeKey {k : BitVec 8} {v : Word} {i : Instr} (h : decodeKey k v = .ok i) :
    isDriverOp i = false := by
  unfold decodeKey at h
  split at h <;> cases h
  exact not_isDriverOp_busInstr ..

/-- What a transaction by address decodes to is what some key decodes to (R76). -/
theorem decodeKey_of_decodeBus {p : Params} {t : BusItem} {i : Instr} (h : decodeBus p t = .ok i) :
    ∃ k, decodeKey k t.wdata = .ok i := by
  unfold decodeBus at h
  split at h
  · cases h
  split at h
  · cases h
  split at h
  · exact ⟨_, h⟩
  · cases h

/-- A driver operation is decoded from an OP word and from nothing else (R75, R88). -/
theorem op_of_decode_isDriverOp {p : Params} {cw : CodeWord} {i : Instr} (h : decode p cw = .ok i)
    (hi : isDriverOp i = true) : ∃ w, cw = .port (.op w) ∧ decodeOp w = .ok i := by
  have contra (hf : isDriverOp i = false) : ∃ w, cw = .port (.op w) ∧ decodeOp w = .ok i := by
    rw [hf] at hi; cases hi
  match cw, h with
  | .uop u, h => exact contra (not_isDriverOp_of_decodeUop h)
  | .port (.key k v), h => exact contra (not_isDriverOp_of_decodeKey h)
  | .port (.bus t), h =>
    obtain ⟨k, hk⟩ := decodeKey_of_decodeBus (t := t) h
    exact contra (not_isDriverOp_of_decodeKey hk)
  | .port (.op w), h => exact ⟨w, rfl, h⟩

theorem port_of_fetch {s : State} {it : PortItem} (h : fetch s = .port it) : ∃ rest, s.port = it :: rest := by
  unfold fetch at h
  split at h
  · cases h
  · rename_i rest hp
    cases h
    exact ⟨rest, hp⟩

theorem fetch_of_port {s : State} {it : PortItem} {rest : List PortItem} (h : s.port = it :: rest) :
    fetch s = .port it := by
  simp [fetch, h]

/-! ### The phase and the port -/

theorem phaseAtPort_of_idle {s : State} (h : s.phase = .idle) : PhaseAtPort s := by
  intro i hi
  rw [h] at hi; cases hi

/-- The phase an operation leaves is the one it found, none, or its own; its own word stands at the port (R135). -/
theorem phaseAtPort_of_exec {s t : State} {i : Instr} (hs : PhaseAtPort s)
    (hd : decode s.params (fetch s) = .ok i) (hport : t.port = s.port)
    (hph : t.phase = s.phase ∨ phaseOwner t.phase = none ∨ phaseOwner t.phase = some i) : PhaseAtPort t := by
  intro j hj
  rw [hport]
  rcases hph with hkept | hnone | hown
  · exact hs j (hkept ▸ hj)
  · rw [hnone] at hj; cases hj
  · obtain rfl : i = j := Option.some.inj (hown.symm.trans hj)
    obtain ⟨w, hw, hdec⟩ := op_of_decode_isDriverOp hd (isDriverOp_of_phaseOwner hown)
    obtain ⟨rest, hrest⟩ := port_of_fetch hw
    exact ⟨w, rest, hrest, hdec⟩

/-- An item is taken off only when no driver operation is under way (R194). -/
theorem phaseAtPort_retire {s t : State} (ht : PhaseAtPort t) (hport : t.port = s.port) :
    PhaseAtPort (retire (fetch s) t) := by
  rcases retire_eq (fetch s) t with h | ⟨h, -, it, hit, hidle⟩
  · rwa [h]
  · rw [h]
    intro i hi
    obtain ⟨w, rest, hw, -⟩ := ht i hi
    have hfetch : fetch s = .port (.op w) := fetch_of_port (hport ▸ hw)
    rw [hit] at hfetch
    cases hfetch
    simp [hidle w rfl, phaseOwner] at hi

/-! ### The invariant over each case -/

/-- The invariant reads six pieces of state only. -/
theorem StateInv.of_kept {s t : State} (h : StateInv s) (hupc : t.upc = s.upc) (hctl : t.usartCtl0 = s.usartCtl0)
    (hbaud : t.usartBaud = s.usartBaud) (hparams : t.params = s.params) (hport : t.port = s.port)
    (hphase : t.phase = s.phase) : StateInv t where
  upcLegal := hupc ▸ h.upcLegal
  controlBits := hctl ▸ h.controlBits
  baudValue := by rw [hbaud, hparams]; exact h.baudValue
  phaseAtPort := by
    intro i hi
    rw [hport]
    exact h.phaseAtPort i (hphase ▸ hi)

theorem upc_le_of_exec {s : State} {n : Nibble} (h : s.upc.toNat ≤ 10) (hn : n = s.upc ∨ n.toNat ≤ 10) :
    n.toNat ≤ 10 := by
  rcases hn with rfl | hn
  · exact h
  · exact hn

theorem StateInv.exec {s t : State} {i : Instr} (h : StateInv s) (hd : decode s.params (fetch s) = .ok i)
    (he : ExecCase i s t) : StateInv t ∧ t.port = s.port := by
  cases he with
  | gated r u _ _ ht =>
    subst ht
    exact ⟨h.of_kept (by simp) (by simp) (by simp) (by simp) (by simp) (by simp), by simp⟩
  | read r n v c ph _ hn hph ht =>
    subst ht
    refine ⟨⟨?_, ?_, ?_, ?_⟩, by simp⟩
    · simpa using upc_le_of_exec h.upcLegal hn
    · simpa using h.controlBits
    · simpa using h.baudValue
    · exact phaseAtPort_of_exec h.phaseAtPort hd (by simp) (by simpa using hph)
  | write r w n v c ph _ hw hn hph ht =>
    subst ht
    refine ⟨⟨?_, ?_, ?_, ?_⟩, by simp⟩
    · simpa using upc_le_of_exec h.upcLegal hn
    · rcases writeEffect_usartCtl0_cases hw with hk | hl
      · simpa [hk] using h.controlBits
      · simpa using hl
    · rcases writeEffect_usartBaud_cases hw with hk | hl
      · simpa [hk] using h.baudValue
      · exact .inl (by simpa using hl)
    · exact phaseAtPort_of_exec h.phaseAtPort hd (by simp) (by simpa using hph)

theorem StateInv.retire {s t : State} (h : StateInv t) (hport : t.port = s.port) :
    StateInv (retire (fetch s) t) := by
  have hphase := phaseAtPort_retire h.phaseAtPort hport
  obtain ⟨l, hl⟩ := retire_eq_setPort (fetch s) t
  rw [hl] at hphase ⊢
  exact ⟨h.upcLegal, h.controlBits, h.baudValue, hphase⟩

theorem StateInv.seqStep {s t : State} (h : StateInv s) (hstep : seqStep s = .next t) : StateInv t := by
  obtain ⟨-, ⟨i, u, hd, he, rfl⟩ | ⟨r, rfl⟩ | ⟨u, -, rfl⟩⟩ := seqStep_next_cases hstep
  · obtain ⟨hu, hport⟩ := h.exec hd (exec_next_cases he).2
    exact hu.retire hport
  · exact h.of_kept rfl rfl rfl rfl rfl rfl
  · exact h.of_kept rfl rfl rfl rfl rfl rfl

theorem StateInv.setSched {s : State} (h : StateInv s) (l : List Turn) : StateInv (s.setSched l) :=
  h.of_kept rfl rfl rfl rfl rfl rfl

theorem StateInv.drawn {s : State} (h : StateInv s) : StateInv s.drawn :=
  h.of_kept rfl rfl rfl rfl rfl rfl

theorem StateInv.phyRx {s : State} (h : StateInv s) (c : Byte) (fe ne : Bool) : StateInv (phyRx c fe ne s) :=
  h.of_kept (by simp) (by simp) (by simp) (by simp) (by simp) (by simp)

theorem StateInv.lineRx {s : State} (h : StateInv s) (c : Byte) (fe ne : Bool) : StateInv (lineRx c fe ne s) := by
  rcases lineRx_cases s c fe ne with he | ⟨c', fe', ne', he⟩ | he <;> rw [he]
  · exact h.phyRx c fe ne
  · exact h.drawn.phyRx c' fe' ne'
  · exact h.drawn

theorem StateInv.phyTx {s : State} (h : StateInv s) : StateInv (phyTx s) := by
  rcases phyTx_cases s with he | ⟨-, he⟩ <;> rw [he]
  · exact h
  · exact h.of_kept (by simp) (by simp) (by simp) (by simp) (by simp) (by simp)

/-- The reset values meet the invariant, whatever the parameters (R37). -/
theorem stateInv_resetWith (p : Params) : StateInv (State.resetWith p) where
  upcLegal := Nat.zero_le _
  controlBits := show ctlLegal 0#32 = true by decide
  baudValue := .inr rfl
  phaseAtPort := phaseAtPort_of_idle rfl

/-- Settles O48: the launch state is the reset state with a schedule, which the invariant does not read. -/
theorem stateInvAtLaunch : Obligations.StateInvAtLaunch :=
  fun p turns => (stateInv_resetWith p).setSched turns

/-- RESET leads into the invariant from any state. -/
theorem stateInv_resetStep (s : State) : StateInv (resetStep s) :=
  (stateInv_resetWith s.params).of_kept rfl rfl rfl rfl rfl rfl

/-- Settles O49: over the cases of a step; only an operation's step touches what the invariant reads. -/
theorem everyStepKeepsStateInv : Obligations.EveryStepKeepsStateInv := by
  intro s t h hstep
  cases step_next_cases hstep with
  | seqLast _ _ ht => exact h.seqStep ht
  | seq _ rest _ ht => exact (h.setSched rest).seqStep ht
  | pass _ rest _ _ ht => exact ht ▸ h.setSched rest
  | rxArrive _ c fe ne rest _ _ ht => exact ht ▸ (h.setSched rest).phyRx c fe ne
  | lineRx _ c fe ne rest _ _ ht => exact ht ▸ (h.setSched rest).lineRx c fe ne
  | txTake _ rest _ _ ht => exact ht ▸ (h.setSched rest).phyTx
  | reset rest _ ht => exact ht ▸ stateInv_resetStep _
  | illegal _ _ _ ht => exact ht ▸ h.of_kept rfl rfl rfl rfl rfl rfl

end Sys2Proof.Machine
end

section
/-! The error bits and the histories are observation only (spec/10_state.md R31, R32; spec/44_serial_channel.md R163;
spec/60_exceptions.md R206): every part of a step answers alike, up to the bookkeeping, from a state and from that state
with its bookkeeping forgotten. Each lemma says so of one definition, in the order of the model. -/

namespace Sys2Proof.Machine

/-- `f` does not read the bookkeeping: up to the bookkeeping it answers alike where that is forgotten first. -/
def Blind (f : State → Result) : Prop :=
  ∀ s, forgetOutcome (f (forgetBookkeeping s)) = forgetOutcome (f s)

/-- The same of an update of the state. -/
def BlindUpdate (f : State → State) : Prop :=
  ∀ s, forgetBookkeeping (f (forgetBookkeeping s)) = forgetBookkeeping (f s)

/-- Two states that differ in the bookkeeping alone are not told apart. -/
theorem Blind.congr {f : State → Result} (hf : Blind f) {x y : State}
    (h : forgetBookkeeping x = forgetBookkeeping y) : forgetOutcome (f x) = forgetOutcome (f y) := by
  rw [← hf x, h, hf y]

theorem BlindUpdate.congr {f : State → State} (hf : BlindUpdate f) {x y : State}
    (h : forgetBookkeeping x = forgetBookkeeping y) : forgetBookkeeping (f x) = forgetBookkeeping (f y) := by
  rw [← hf x, h, hf y]

theorem BlindUpdate.next {f : State → State} (hf : BlindUpdate f) : Blind fun s => .next (f s) :=
  fun s => congrArg Host.Outcome.next (hf s)

/-! ### The bus primitives -/

theorem forget_gateOpen (r : Reg) (s : State) : gateOpen r (forgetBookkeeping s) = gateOpen r s := by
  cases r <;> rfl

theorem forget_readValue (r : Reg) (s : State) : readValue r (forgetBookkeeping s) = readValue r s := by
  cases r <;> rfl

theorem forget_writeRefusal (r : Reg) (v : Word) (s : State) :
    writeRefusal r v (forgetBookkeeping s) = writeRefusal r v s := by
  cases r <;> rfl

theorem forget_readEffect (r : Reg) (s : State) :
    readEffect r (forgetBookkeeping s) = forgetBookkeeping (readEffect r s) := by
  cases r with
  | usartData => cases hf : s.rxFull <;> simp [readEffect, forgetBookkeeping, State.drainRx, State.drawn, hf]
  | _ => rfl

theorem forget_writeEffect (r : Reg) (v : Word) (s : State) :
    writeEffect r v (forgetBookkeeping s) = forgetBookkeeping (writeEffect r v s) := by
  cases r <;> rfl

theorem forget_whenRunning {s : State} {k k' : Result} (h : forgetOutcome k = forgetOutcome k') :
    forgetOutcome (whenRunning (forgetBookkeeping s) k) = forgetOutcome (whenRunning s k') := by
  cases hr : s.refused with
  | some r => rw [whenRunning_refused hr, whenRunning_refused (s := forgetBookkeeping s) hr]
  | none =>
    cases hf : s.fault with
    | some f => rw [whenRunning_halted hr hf, whenRunning_halted (s := forgetBookkeeping s) hr hf]
    | none => rwa [whenRunning_eq ⟨hr, hf⟩, whenRunning_eq (s := forgetBookkeeping s) ⟨hr, hf⟩]

theorem forget_busRead (u : Option Nibble) (r : Reg) (s : State) {k : Word → State → Result}
    (hk : ∀ v, Blind (k v)) :
    forgetOutcome (busRead u r (forgetBookkeeping s) k) = forgetOutcome (busRead u r s k) := by
  have hgate := forget_gateOpen r s
  cases hg : gateOpen r s with
  | false => rw [busRead_closed hg, busRead_closed (hgate.trans hg)]; rfl
  | true =>
    rw [busRead_open hg, busRead_open (hgate.trans hg), forget_readValue, forget_readEffect]
    exact (hk _).congr rfl

theorem forget_busWrite (u : Option Nibble) (r : Reg) (w : Word) (s : State) {k : State → Result} (hk : Blind k) :
    forgetOutcome (busWrite u r w (forgetBookkeeping s) k) = forgetOutcome (busWrite u r w s k) := by
  have hgate := forget_gateOpen r s
  have hrefusal := forget_writeRefusal r w s
  cases hg : gateOpen r s with
  | false => rw [busWrite_closed hg, busWrite_closed (hgate.trans hg)]; rfl
  | true =>
    cases hw : writeRefusal r w s with
    | some e => rw [busWrite_illegal hg hw, busWrite_illegal (hgate.trans hg) (hrefusal.trans hw)]
    | none =>
      rw [busWrite_open hg hw, busWrite_open (hgate.trans hg) (hrefusal.trans hw), forget_writeEffect]
      exact hk.congr rfl

/-! ### The operations -/

theorem blind_readAlone (r : Reg) : Blind (readAlone r) := fun s =>
  forget_whenRunning (forget_busRead _ r s fun _ _ => rfl)

theorem blind_writeAlone (r : Reg) (w : Word) : Blind (writeAlone r w) := fun s =>
  forget_whenRunning (forget_busWrite _ r w s fun _ => rfl)

/-- Stated at a state, because a pin's register and the word written are found in it. -/
theorem forget_microRead (s : State) (r : Reg) {k : Word → State → State} (hk : ∀ v, BlindUpdate (k v)) :
    forgetOutcome (microRead r (forgetBookkeeping s) k) = forgetOutcome (microRead r s k) :=
  forget_whenRunning (forget_busRead _ r s fun v => (hk v).next)

theorem forget_microWrite (s : State) (r : Reg) (w : Word) (n : Nibble) :
    forgetOutcome (microWrite r w n (forgetBookkeeping s)) = forgetOutcome (microWrite r w n s) :=
  forget_whenRunning (forget_busWrite _ r w s fun _ => rfl)

/-- The phase is no bookkeeping: a driver operation finds the same step due. -/
theorem forget_ite_phase {s : State} (ph : OpPhase) {a a' b b' : Result} (ha : forgetOutcome a = forgetOutcome a')
    (hb : forgetOutcome b = forgetOutcome b') :
    forgetOutcome (if (forgetBookkeeping s).phase = ph then a else b) =
      forgetOutcome (if s.phase = ph then a' else b') := by
  show forgetOutcome (if s.phase = ph then a else b) = _
  split
  · exact ha
  · exact hb

theorem blind_execEnable (mask : Word) : Blind (execEnable mask) := fun s =>
  forget_whenRunning (forget_busWrite none _ _ s fun _ => rfl)

theorem blind_execConfigure (pin config : Nibble) : Blind (execConfigure pin config) := fun s =>
  forget_whenRunning <| forget_ite_phase _ (forget_busWrite none _ _ s fun _ => rfl)
    (forget_busRead none _ s fun _ _ => rfl)

theorem blind_execInit (divisor : Word) : Blind (execInit divisor) := fun s =>
  forget_whenRunning <| forget_ite_phase _ (forget_busWrite none _ _ s fun _ => rfl)
    (forget_busWrite none _ _ s fun _ => rfl)

theorem blind_execReceive : Blind execReceive := fun s =>
  forget_whenRunning <| forget_ite_phase _ (forget_busRead none _ s fun _ _ => rfl)
    (forget_busRead none _ s fun _ _ => rfl)

theorem blind_execTransmit (value : Word) : Blind (execTransmit value) := fun s =>
  forget_whenRunning <| forget_ite_phase _ (forget_busWrite none _ _ s fun _ => rfl)
    (forget_busRead none _ s fun _ _ => rfl)

theorem blind_exec (i : Instr) : Blind (exec i) := by
  intro s
  cases i with
  | rdRcuClken => exact blind_readAlone _ s
  | wrRcuClken v => exact blind_writeAlone _ _ s
  | rdGpioCtl0 => exact blind_readAlone _ s
  | wrGpioCtl0 v => exact blind_writeAlone _ _ s
  | rdGpioCtl1 => exact blind_readAlone _ s
  | wrGpioCtl1 v => exact blind_writeAlone _ _ s
  | rdUsartStat => exact blind_readAlone _ s
  | wrUsartStat v => exact blind_writeAlone _ _ s
  | rdUsartData => exact blind_readAlone _ s
  | wrUsartData v => exact blind_writeAlone _ _ s
  | rdUsartBaud => exact blind_readAlone _ s
  | wrUsartBaud v => exact blind_writeAlone _ _ s
  | rdUsartCtl0 => exact blind_readAlone _ s
  | wrUsartCtl0 v => exact blind_writeAlone _ _ s
  | enable mask => exact blind_execEnable mask s
  | configure pin config => exact blind_execConfigure pin config s
  | init divisor => exact blind_execInit divisor s
  | receive => exact blind_execReceive s
  | transmit value => exact blind_execTransmit value s
  | clkEn => exact forget_microWrite s _ _ _
  | txpRd => exact forget_microRead s _ fun _ _ => rfl
  | txpWr => exact forget_microWrite s _ _ _
  | rxpRd => exact forget_microRead s _ fun _ _ => rfl
  | rxpWr => exact forget_microWrite s _ _ _
  | baudWr => exact forget_microWrite s _ _ _
  | ctlWr => exact forget_microWrite s _ _ _
  | rxPoll => exact forget_microRead s _ fun _ _ => rfl
  | rxRead => exact forget_microRead s _ fun _ _ => rfl
  | txPoll => exact forget_microRead s _ fun _ _ => rfl
  | txWrite => exact forget_microWrite s _ _ _

/-! ### The agents' turns -/

theorem blindUpdate_retire (cw : CodeWord) : BlindUpdate (retire cw) := by
  intro s
  have hfinished : finished cw (forgetBookkeeping s) = finished cw s := rfl
  unfold retire
  rw [hfinished]
  split <;> rfl

theorem forget_settle (cw : CodeWord) (s : State) {o o' : Result} (h : forgetOutcome o = forgetOutcome o') :
    forgetOutcome (settle cw (forgetBookkeeping s) o) = forgetOutcome (settle cw s o') := by
  cases o with
  | next t =>
    cases o' with
    | next t' => exact congrArg Host.Outcome.next ((blindUpdate_retire cw).congr (Host.Outcome.next.inj h))
    | fault f => cases h
    | refused r => cases h
  | fault f =>
    cases o' with
    | fault f' => exact h
    | next t' => cases h
    | refused r => cases h
  | refused r =>
    cases o' with
    | refused r' => cases h; rfl
    | next t' => cases h
    | fault f => cases h

theorem blindUpdate_rejectWord (e : DecodeError) : BlindUpdate (rejectWord e) := by
  intro s
  cases e <;> rfl

theorem blind_seqStep : Blind seqStep := by
  intro s
  refine forget_whenRunning ?_
  have hdecode : decode (forgetBookkeeping s).params (fetch (forgetBookkeeping s)) = decode s.params (fetch s) := rfl
  rw [hdecode]
  cases decode s.params (fetch s) with
  | ok i => exact forget_settle (fetch s) s (blind_exec i s)
  | error e => exact (blindUpdate_rejectWord e).next s

theorem seqTurn_passes {s : State} {f : FaultRecord} (hr : s.refused = none) (hf : s.fault = some f) :
    seqTurn s = .next s := by
  simp [seqTurn, hr, hf]

theorem seqTurn_eq_seqStep {s : State} (h : s.refused ≠ none ∨ s.fault = none) : seqTurn s = seqStep s := by
  unfold seqTurn
  split
  · rename_i f hr hf
    rcases h with h | h
    · exact absurd hr h
    · cases hf.symm.trans h
  · rfl

theorem blind_seqTurn : Blind seqTurn := by
  intro s
  by_cases h : s.refused ≠ none ∨ s.fault = none
  · rw [seqTurn_eq_seqStep h, seqTurn_eq_seqStep (s := forgetBookkeeping s) h]
    exact blind_seqStep s
  · obtain ⟨hr, hf⟩ := not_or.mp h
    obtain ⟨f, hf⟩ := Option.ne_none_iff_exists'.mp hf
    rw [seqTurn_passes (not_not.mp hr) hf, seqTurn_passes (s := forgetBookkeeping s) (not_not.mp hr) hf]
    rfl

theorem blindUpdate_rxArrive (c : Byte) (fe ne : Bool) : BlindUpdate (rxArrive c fe ne) := by
  intro s
  cases h : s.rxFull with
  | false => rw [rxArrive_empty h, rxArrive_empty (s := forgetBookkeeping s) h]; rfl
  | true => rw [rxArrive_full h, rxArrive_full (s := forgetBookkeeping s) h]; rfl

theorem blindUpdate_phyRx (c : Byte) (fe ne : Bool) : BlindUpdate (phyRx c fe ne) := by
  intro s
  have henabled : rxEnabled (forgetBookkeeping s) = rxEnabled s := rfl
  unfold phyRx
  rw [henabled]
  split
  · exact blindUpdate_rxArrive c fe ne s
  · rfl

theorem blindUpdate_lineRx (c : Byte) (fe ne : Bool) : BlindUpdate (lineRx c fe ne) := by
  intro s
  have hconnected : rxConnected (forgetBookkeeping s) = rxConnected s := rfl
  have hdraws : (forgetBookkeeping s).draws = s.draws := rfl
  unfold lineRx
  rw [hconnected, hdraws]
  split
  · exact blindUpdate_phyRx c fe ne s
  · split
    · exact blindUpdate_phyRx _ _ _ s.drawn
    · rfl

theorem blindUpdate_driveLine (c : Byte) : BlindUpdate (driveLine c) := by
  intro s
  have hconnected : txConnected (forgetBookkeeping s) = txConnected s := rfl
  have hdraws : (forgetBookkeeping s).draws = s.draws := rfl
  unfold driveLine
  rw [hconnected, hdraws]
  split
  · rfl
  · split <;> rfl

theorem blindUpdate_drainTx : BlindUpdate State.drainTx := fun _ => rfl

theorem blindUpdate_txTake : BlindUpdate txTake := fun _ =>
  blindUpdate_drainTx.congr ((blindUpdate_driveLine _).congr rfl)

theorem blindUpdate_phyTx : BlindUpdate phyTx := by
  intro s
  have henabled : (txEnabled (forgetBookkeeping s) && (forgetBookkeeping s).txFull) = (txEnabled s && s.txFull) := rfl
  unfold phyTx
  rw [henabled]
  split
  · exact blindUpdate_txTake s
  · rfl

theorem BlindUpdate.unlessRefused {f : State → State} (hf : BlindUpdate f) :
    Blind fun s => unlessRefused s (f s) := by
  intro s
  have hrefused : (forgetBookkeeping s).refused = s.refused := rfl
  simp only [Sys2Proof.Machine.unlessRefused, hrefused]
  split
  · rfl
  · exact hf.next s

theorem blind_agentStep (turn : Turn) : Blind (agentStep turn) := by
  intro s
  cases turn with
  | seq => exact blind_seqTurn s
  | rxArrive c fe ne => exact (blindUpdate_phyRx c fe ne).unlessRefused s
  | lineRx c fe ne => exact (blindUpdate_lineRx c fe ne).unlessRefused s
  | txTake => exact blindUpdate_phyTx.unlessRefused s
  | reset => rfl

theorem blind_nextTurn : Blind nextTurn := by
  intro s
  have hsched : (forgetBookkeeping s).sched = s.sched := rfl
  unfold nextTurn
  rw [hsched]
  cases s.sched with
  | nil => exact blind_seqStep s
  | cons turn rest => exact blind_agentStep turn (s.setSched rest)

theorem blind_refusedTurn : Blind refusedTurn := by
  intro s
  by_cases h : ∃ rest, s.sched = .reset :: rest
  · obtain ⟨rest, h⟩ := h
    simp only [refusedTurn, h, show (forgetBookkeeping s).sched = _ from h]
    rfl
  · have hs : ∀ rest, s.sched ≠ .reset :: rest := not_exists.mp h
    rw [refusedTurn_eq hs, refusedTurn_eq (s := forgetBookkeeping s) hs]
    exact BlindUpdate.unlessRefused (f := fun s => (s.setSched s.sched.tail).markRefused .illegalParameters)
      (fun _ => rfl) s

theorem blind_step : Blind step := by
  intro s
  cases hl : s.params.legal with
  | true =>
    rw [step_of_legal hl, step_of_legal (s := forgetBookkeeping s) hl]
    exact blind_nextTurn s
  | false =>
    rw [step_of_illegal hl, step_of_illegal (s := forgetBookkeeping s) hl]
    exact blind_refusedTurn s

/-- Settles O52: a step answers, up to the bookkeeping, as from the state without it, which the two states share. -/
theorem bookkeepingIsNeverRead : Obligations.BookkeepingIsNeverRead :=
  fun _ _ h => blind_step.congr h

end Sys2Proof.Machine
end

section
/-! What moves the two flags and their buffers, over every step (spec/10_state.md R22, R23; spec/44_serial_channel.md
R157, R165, R168, R171). Each side of the serial channel has its list of causes, and a step is one of them. -/

namespace Sys2Proof.Machine

/-! ### The receive side -/

/-- `rx_full` and `rx_buf` stay, or the full buffer is read and its character returned (R109, R157). -/
def RxKeptOrRead (s t : State) : Prop :=
  (t.rxFull = s.rxFull ∧ t.rxBuf = s.rxBuf) ∨
    (s.rxFull = true ∧ t.rxFull = false ∧
      t.busLog = s.busLog ++ [.read (addrOf s.params .usartData) (s.rxBuf.setWidth 32)])

/-- What a step can do to `rx_full` and `rx_buf`. -/
inductive RxMove (s t : State) : Prop where
  /-- Nothing, or a `USART_DATA` read. -/
  | keptOrRead (h : RxKeptOrRead s t)
  /-- A character arrives at an empty buffer (R165). -/
  | arrived (c : Byte) (fe ne : Bool) (rest : List Turn) (was : s.rxFull = false) (buf : t.rxBuf = c.setWidth 9)
      (hist : t.rxHist = s.rxHist ++ [.arrived c fe ne true])
      (turn : s.sched = .rxArrive c fe ne :: rest ∨ ∃ c' fe' ne', s.sched = .lineRx c' fe' ne' :: rest)
  /-- RESET (R220). -/
  | reset (rest : List Turn) (turn : s.sched = .reset :: rest) (now : t.rxFull = false)

theorem RxMove.kept {s t : State} (full : t.rxFull = s.rxFull) (buf : t.rxBuf = s.rxBuf) : RxMove s t :=
  .keptOrRead (.inl ⟨full, buf⟩)

theorem ExecCase.rxKeptOrRead {i : Instr} {s t : State} (h : ExecCase i s t) : RxKeptOrRead s t := by
  cases h with
  | gated r u _ _ ht => exact .inl (by simp [ht])
  | read r n v c ph _ _ _ ht =>
    rcases readEffect_rxFull_cases r s with hkept | ⟨rfl, hfull, hdrained⟩
    · exact .inl (by simp [ht, hkept])
    · exact .inr ⟨hfull, by simp [ht, hdrained], by simp [ht, readValue_usartData hfull]⟩
  | write r w n v c ph _ _ _ _ ht => exact .inl (by simp [ht])

theorem seqStep_rxKeptOrRead {s t : State} (h : seqStep s = .next t) : RxKeptOrRead s t := by
  obtain ⟨i, u, l, hu, rfl⟩ | ⟨r, rfl⟩ | rfl := seqStep_exec_cases h
  · exact hu.rxKeptOrRead
  · exact .inl ⟨rfl, rfl⟩
  · exact .inl ⟨rfl, rfl⟩

/-- A `PHY_RX` turn that offers `c`, scheduled as an arrival of `c` or as a line turn; `u` is `s` but for what the
receive side does not read. -/
theorem phyRx_rxMove {s u : State} {c : Byte} {fe ne : Bool} {rest : List Turn}
    (hfull : u.rxFull = s.rxFull) (hbuf : u.rxBuf = s.rxBuf) (hhist : u.rxHist = s.rxHist)
    (turn : s.sched = .rxArrive c fe ne :: rest ∨ ∃ c' fe' ne', s.sched = .lineRx c' fe' ne' :: rest) :
    RxMove s (phyRx c fe ne u) := by
  rcases phyRx_cases c fe ne u with h | h <;> rw [h]
  · exact .kept hfull hbuf
  · cases hu : u.rxFull with
    | true => exact .kept (by simp [rxArrive_full hu, ← hfull, hu]) (by simp [rxArrive_full hu, hbuf])
    | false =>
      exact .arrived c fe ne rest (hfull ▸ hu) (by simp [rxArrive_empty hu]) (by simp [rxArrive_empty hu, hhist]) turn

theorem lineRx_rxMove {s : State} {c : Byte} {fe ne : Bool} {rest : List Turn}
    (turn : s.sched = .lineRx c fe ne :: rest) : RxMove s (lineRx c fe ne (s.setSched rest)) := by
  have hline : ∃ c' fe' ne', s.sched = .lineRx c' fe' ne' :: rest := ⟨c, fe, ne, turn⟩
  rcases lineRx_cases (s.setSched rest) c fe ne with h | ⟨c', fe', ne', h⟩ | h <;> rw [h]
  · exact phyRx_rxMove rfl rfl rfl (.inr hline)
  · exact phyRx_rxMove rfl rfl rfl (.inr hline)
  · exact .kept rfl rfl

theorem phyTx_rxKept (s : State) : (phyTx s).rxFull = s.rxFull ∧ (phyTx s).rxBuf = s.rxBuf := by
  rcases phyTx_cases s with h | ⟨-, h⟩ <;> simp [h]

theorem step_rxMove {s t : State} (h : step s = .next t) : RxMove s t := by
  cases step_next_cases h with
  | seqLast _ _ ht => exact .keptOrRead (seqStep_rxKeptOrRead ht)
  | seq _ rest _ ht => exact .keptOrRead (seqStep_rxKeptOrRead (s := s.setSched rest) ht)
  | pass _ rest _ _ ht => exact ht ▸ .kept rfl rfl
  | rxArrive _ c fe ne rest hsched _ ht => exact ht ▸ phyRx_rxMove rfl rfl rfl (.inl hsched)
  | lineRx _ c fe ne rest hsched _ ht => exact ht ▸ lineRx_rxMove hsched
  | txTake _ rest _ _ ht => exact .keptOrRead (.inl (ht ▸ phyTx_rxKept (s.setSched rest)))
  | reset rest hsched ht => exact .reset rest hsched (by simp [ht])
  | illegal _ _ _ ht => exact ht ▸ .kept rfl rfl

/-! ### The transmit side -/

/-- `tx_full` and `tx_buf` stay, or a `USART_DATA` write fills the empty buffer (R110). -/
def TxKeptOrWritten (s t : State) : Prop :=
  (t.txFull = s.txFull ∧ t.txBuf = s.txBuf) ∨
    (s.txFull = false ∧ t.txFull = true ∧ ∃ v : Word,
      t.busLog = s.busLog ++ [.write (addrOf s.params .usartData) v] ∧ t.txBuf = v.setWidth 9)

/-- What a step can do to `tx_full` and `tx_buf`. -/
inductive TxMove (s t : State) : Prop where
  /-- Nothing, or a `USART_DATA` write. -/
  | keptOrWritten (h : TxKeptOrWritten s t)
  /-- `PHY_TX` takes the pending character (R168). -/
  | taken (rest : List Turn) (turn : s.sched = .txTake :: rest) (now : t.txFull = false)
      (log : t.txLog = s.txLog ++ [.taken (s.txBuf.setWidth 8)])
  /-- RESET (R220). -/
  | reset (rest : List Turn) (turn : s.sched = .reset :: rest) (now : t.txFull = false)

theorem TxMove.kept {s t : State} (full : t.txFull = s.txFull) (buf : t.txBuf = s.txBuf) : TxMove s t :=
  .keptOrWritten (.inl ⟨full, buf⟩)

theorem ExecCase.txKeptOrWritten {i : Instr} {s t : State} (h : ExecCase i s t) : TxKeptOrWritten s t := by
  cases h with
  | gated r u _ _ ht => exact .inl (by simp [ht])
  | read r n v c ph _ _ _ ht => exact .inl (by simp [ht])
  | write r w n v c ph _ hw _ _ ht =>
    rcases writeEffect_tx_cases hw with ⟨hfull, hbuf⟩ | ⟨rfl, hwas, hnow, hbuf⟩
    · exact .inl (by simp [ht, hfull, hbuf])
    · exact .inr ⟨hwas, by simp [ht, hnow], w, by simp [ht], by simp [ht, hbuf]⟩

theorem seqStep_txKeptOrWritten {s t : State} (h : seqStep s = .next t) : TxKeptOrWritten s t := by
  obtain ⟨i, u, l, hu, rfl⟩ | ⟨r, rfl⟩ | rfl := seqStep_exec_cases h
  · exact hu.txKeptOrWritten
  · exact .inl ⟨rfl, rfl⟩
  · exact .inl ⟨rfl, rfl⟩

theorem lineRx_txKept (c : Byte) (fe ne : Bool) (s : State) :
    (lineRx c fe ne s).txFull = s.txFull ∧ (lineRx c fe ne s).txBuf = s.txBuf := by
  rcases lineRx_cases s c fe ne with h | ⟨c', fe', ne', h⟩ | h <;> simp [h]

theorem phyTx_txMove {s : State} {rest : List Turn} (turn : s.sched = .txTake :: rest) :
    TxMove s (phyTx (s.setSched rest)) := by
  rcases phyTx_cases (s.setSched rest) with h | ⟨-, h⟩ <;> rw [h]
  · exact .kept rfl rfl
  · exact .taken rest turn (by simp) (by simp [BitVec.setWidth_eq_extractLsb'])

theorem step_txMove {s t : State} (h : step s = .next t) : TxMove s t := by
  cases step_next_cases h with
  | seqLast _ _ ht => exact .keptOrWritten (seqStep_txKeptOrWritten ht)
  | seq _ rest _ ht => exact .keptOrWritten (seqStep_txKeptOrWritten (s := s.setSched rest) ht)
  | pass _ rest _ _ ht => exact ht ▸ .kept rfl rfl
  | rxArrive _ c fe ne rest _ _ ht => exact .kept (by simp [ht]) (by simp [ht])
  | lineRx _ c fe ne rest _ _ ht => exact .keptOrWritten (.inl (ht ▸ lineRx_txKept c fe ne (s.setSched rest)))
  | txTake _ rest hsched _ ht => exact ht ▸ phyTx_txMove hsched
  | reset rest hsched ht => exact .reset rest hsched (by simp [ht])
  | illegal _ _ _ ht => exact ht ▸ .kept rfl rfl

/-! ### Both flags -/

theorem RxMove.falls {s t : State} (h : RxMove s t) (was : s.rxFull = true) (now : t.rxFull = false) :
    (∃ rest, s.sched = .reset :: rest) ∨
      t.busLog = s.busLog ++ [.read (s.params.usartBase + 0x04#32) (s.rxBuf.setWidth 32)] := by
  cases h with
  | keptOrRead h =>
    rcases h with ⟨hfull, -⟩ | ⟨-, -, hlog⟩
    · simp [hfull, was] at now
    · exact .inr (addrOf_usartData s.params ▸ hlog)
  | arrived _ _ _ _ was' _ _ _ => simp [was] at was'
  | reset rest hturn _ => exact .inl ⟨rest, hturn⟩

theorem RxMove.rises {s t : State} (h : RxMove s t) (was : s.rxFull = false) (now : t.rxFull = true) :
    ∃ c ferr nerr rest, t.rxBuf = c.setWidth 9 ∧ t.rxHist = s.rxHist ++ [.arrived c ferr nerr true] ∧
      (s.sched = .rxArrive c ferr nerr :: rest ∨ ∃ c' ferr' nerr', s.sched = .lineRx c' ferr' nerr' :: rest) := by
  cases h with
  | keptOrRead h =>
    rcases h with ⟨hfull, -⟩ | ⟨was', -, -⟩
    · simp [hfull, was] at now
    · simp [was] at was'
  | arrived c fe ne rest _ hbuf hhist hturn => exact ⟨c, fe, ne, rest, hbuf, hhist, hturn⟩
  | reset _ _ hnow => simp [hnow] at now

theorem RxMove.stays {s t : State} (h : RxMove s t) (was : s.rxFull = true) (now : t.rxFull = true) :
    t.rxBuf = s.rxBuf := by
  cases h with
  | keptOrRead h =>
    rcases h with ⟨-, hbuf⟩ | ⟨-, hnow, -⟩
    · exact hbuf
    · simp [hnow] at now
  | arrived _ _ _ _ was' _ _ _ => simp [was] at was'
  | reset _ _ hnow => simp [hnow] at now

theorem TxMove.rises {s t : State} (h : TxMove s t) (was : s.txFull = false) (now : t.txFull = true) :
    ∃ v : Word, t.busLog = s.busLog ++ [.write (s.params.usartBase + 0x04#32) v] ∧ t.txBuf = v.setWidth 9 := by
  cases h with
  | keptOrWritten h =>
    rcases h with ⟨hfull, -⟩ | ⟨-, -, v, hlog, hbuf⟩
    · simp [hfull, was] at now
    · exact ⟨v, addrOf_usartData s.params ▸ hlog, hbuf⟩
  | taken _ _ hnow _ => simp [hnow] at now
  | reset _ _ hnow => simp [hnow] at now

theorem TxMove.falls {s t : State} (h : TxMove s t) (was : s.txFull = true) (now : t.txFull = false) :
    ∃ rest, s.sched = .reset :: rest ∨
      (s.sched = .txTake :: rest ∧ t.txLog = s.txLog ++ [.taken (s.txBuf.setWidth 8)]) := by
  cases h with
  | keptOrWritten h =>
    rcases h with ⟨hfull, -⟩ | ⟨was', -, -⟩
    · simp [hfull, was] at now
    · simp [was] at was'
  | taken rest hturn _ hlog => exact ⟨rest, .inr ⟨hturn, hlog⟩⟩
  | reset rest hturn _ => exact ⟨rest, .inl hturn⟩

theorem TxMove.stays {s t : State} (h : TxMove s t) (was : s.txFull = true) (now : t.txFull = true) :
    t.txBuf = s.txBuf := by
  cases h with
  | keptOrWritten h =>
    rcases h with ⟨-, hbuf⟩ | ⟨was', -, -⟩
    · exact hbuf
    · simp [was] at was'
  | taken _ _ hnow _ => simp [hnow] at now
  | reset _ _ hnow => simp [hnow] at now

/-- Settles O37: each clause read off the list of causes of its side. -/
theorem flagsAreStable : Obligations.FlagsAreStable := by
  intro s t h
  have hrx := step_rxMove h
  have htx := step_txMove h
  exact ⟨hrx.falls, hrx.rises, hrx.stays, htx.rises, htx.falls, htx.stays⟩

end Sys2Proof.Machine
end

section
/-! What accumulates: the error bits but for RESET (spec/10_state.md R31; spec/60_exceptions.md R206), the histories over
RESET too (spec/10_state.md R32; spec/70_reset_and_hazards.md R220). -/

namespace Sys2Proof.Machine

/-! ### The error bits -/

/-- Each error bit of `e` is one of `e'` (R31). -/
def ErrorsKept (e e' : ErrBits) : Prop :=
  (e.overrun = true → e'.overrun = true) ∧ (e.framing = true → e'.framing = true) ∧
    (e.noise = true → e'.noise = true) ∧ (e.clock = true → e'.clock = true)

theorem ErrorsKept.of_eq {e e' : ErrBits} (h : e' = e) : ErrorsKept e e' := by
  subst h
  exact ⟨id, id, id, id⟩

theorem ExecCase.errorsKept {i : Instr} {s t : State} (h : ExecCase i s t) : ErrorsKept s.err t.err := by
  cases h with
  | gated r u _ _ ht =>
    rw [ht, raiseClockNotReady_err]
    exact ⟨id, id, id, fun _ => rfl⟩
  | read r n v c ph _ _ _ ht => exact .of_eq (by simp [ht])
  | write r w n v c ph _ _ _ _ ht => exact .of_eq (by simp [ht])

theorem seqStep_errorsKept {s t : State} (h : seqStep s = .next t) : ErrorsKept s.err t.err := by
  obtain ⟨i, u, l, hu, rfl⟩ | ⟨r, rfl⟩ | rfl := seqStep_exec_cases h
  · exact hu.errorsKept
  · exact .of_eq rfl
  · exact .of_eq rfl

/-- An arrival adds to the error bits by disjunction (R198 to R200). -/
theorem rxArrive_errorsKept (c : Byte) (fe ne : Bool) (s : State) : ErrorsKept s.err (rxArrive c fe ne s).err := by
  cases h : s.rxFull with
  | false =>
    rw [rxArrive_empty h]
    exact ⟨id, Bool.or_inl, Bool.or_inl, id⟩
  | true =>
    rw [rxArrive_full h]
    exact ⟨fun _ => rfl, Bool.or_inl, Bool.or_inl, id⟩

theorem phyRx_errorsKept (c : Byte) (fe ne : Bool) (s : State) : ErrorsKept s.err (phyRx c fe ne s).err := by
  rcases phyRx_cases c fe ne s with h | h <;> rw [h]
  · exact .of_eq rfl
  · exact rxArrive_errorsKept c fe ne s

theorem lineRx_errorsKept (c : Byte) (fe ne : Bool) (s : State) : ErrorsKept s.err (lineRx c fe ne s).err := by
  rcases lineRx_cases s c fe ne with h | ⟨c', fe', ne', h⟩ | h <;> rw [h]
  · exact phyRx_errorsKept c fe ne s
  · exact phyRx_errorsKept c' fe' ne' s.drawn
  · exact .of_eq rfl

theorem phyTx_err (s : State) : (phyTx s).err = s.err := by
  rcases phyTx_cases s with h | ⟨-, h⟩ <;> simp [h]

/-- Settles O42: a gated access and an arrival can only add an error bit, and nothing else but RESET writes them. -/
theorem errorBitsAreSticky : Obligations.ErrorBitsAreSticky := by
  intro s t h hs
  show ErrorsKept s.err t.err
  cases step_next_cases h with
  | seqLast _ _ ht => exact seqStep_errorsKept ht
  | seq _ rest _ ht => exact seqStep_errorsKept (s := s.setSched rest) ht
  | pass _ rest _ _ ht => exact .of_eq (by simp [ht])
  | rxArrive _ c fe ne rest _ _ ht => exact ht ▸ phyRx_errorsKept c fe ne (s.setSched rest)
  | lineRx _ c fe ne rest _ _ ht => exact ht ▸ lineRx_errorsKept c fe ne (s.setSched rest)
  | txTake _ rest _ _ ht => exact .of_eq (ht ▸ phyTx_err (s.setSched rest))
  | reset rest hsched _ => exact absurd hsched (hs rest)
  | illegal _ _ _ ht => exact .of_eq (by simp [ht])

/-! ### The histories -/

/-- The parameters are kept and each history is extended (R5, R32). -/
def HistoriesExtended (s t : State) : Prop :=
  t.params = s.params ∧ s.busLog <+: t.busLog ∧ s.rxHist <+: t.rxHist ∧ s.txLog <+: t.txLog ∧ s.lineLog <+: t.lineLog

theorem HistoriesExtended.of_eq {s t : State} (hparams : t.params = s.params) (hbus : t.busLog = s.busLog)
    (hrx : t.rxHist = s.rxHist) (htx : t.txLog = s.txLog) (hline : t.lineLog = s.lineLog) : HistoriesExtended s t := by
  simp [HistoriesExtended, hparams, hbus, hrx, htx, hline]

theorem ExecCase.historiesExtended {i : Instr} {s t : State} (h : ExecCase i s t) : HistoriesExtended s t := by
  cases h with
  | gated r u _ _ ht => simp [HistoriesExtended, ht]
  | read r n v c ph _ _ _ ht => simp [HistoriesExtended, ht]
  | write r w n v c ph _ _ _ _ ht => simp [HistoriesExtended, ht]

theorem seqStep_historiesExtended {s t : State} (h : seqStep s = .next t) : HistoriesExtended s t := by
  obtain ⟨i, u, l, hu, rfl⟩ | ⟨r, rfl⟩ | rfl := seqStep_exec_cases h
  · exact hu.historiesExtended
  · exact .of_eq rfl rfl rfl rfl rfl
  · exact .of_eq rfl rfl rfl rfl rfl

theorem rxArrive_rxHist_prefix (c : Byte) (fe ne : Bool) (s : State) : s.rxHist <+: (rxArrive c fe ne s).rxHist := by
  cases h : s.rxFull with
  | false => simp [rxArrive_empty h]
  | true => simp [rxArrive_full h]

theorem phyRx_historiesExtended (c : Byte) (fe ne : Bool) (s : State) : HistoriesExtended s (phyRx c fe ne s) := by
  rcases phyRx_cases c fe ne s with h | h <;> rw [h]
  · exact .of_eq rfl rfl rfl rfl rfl
  · simpa [HistoriesExtended] using rxArrive_rxHist_prefix c fe ne s

theorem lineRx_historiesExtended (c : Byte) (fe ne : Bool) (s : State) : HistoriesExtended s (lineRx c fe ne s) := by
  rcases lineRx_cases s c fe ne with h | ⟨c', fe', ne', h⟩ | h <;> rw [h]
  · exact phyRx_historiesExtended c fe ne s
  · exact phyRx_historiesExtended c' fe' ne' s.drawn
  · exact .of_eq rfl rfl rfl rfl rfl

theorem txTake_lineLog_prefix (s : State) : s.lineLog <+: (txTake s).lineLog :=
  driveLine_lineLog_prefix _ (s.logTx _)

theorem phyTx_historiesExtended (s : State) : HistoriesExtended s (phyTx s) := by
  rcases phyTx_cases s with h | ⟨-, h⟩ <;> rw [h]
  · exact .of_eq rfl rfl rfl rfl rfl
  · simpa [HistoriesExtended] using txTake_lineLog_prefix s

/-- Settles O50: every case of a step appends to the histories or leaves them, RESET by its markers. -/
theorem historiesOnlyGrow : Obligations.HistoriesOnlyGrow := by
  intro s t h
  show HistoriesExtended s t
  cases step_next_cases h with
  | seqLast _ _ ht => exact seqStep_historiesExtended ht
  | seq _ rest _ ht => exact seqStep_historiesExtended (s := s.setSched rest) ht
  | pass _ rest _ _ ht => exact ht ▸ .of_eq rfl rfl rfl rfl rfl
  | rxArrive _ c fe ne rest _ _ ht => exact ht ▸ phyRx_historiesExtended c fe ne (s.setSched rest)
  | lineRx _ c fe ne rest _ _ ht => exact ht ▸ lineRx_historiesExtended c fe ne (s.setSched rest)
  | txTake _ rest _ _ ht => exact ht ▸ phyTx_historiesExtended (s.setSched rest)
  | reset rest _ ht => simp [HistoriesExtended, ht]
  | illegal _ _ _ ht => exact ht ▸ .of_eq rfl rfl rfl rfl rfl

end Sys2Proof.Machine
end

section
/-! The state at reset and at launch (spec/10_state.md R37; spec/70_reset_and_hazards.md R220, R223;
spec/45_main_sequencer.md R177). -/

namespace Sys2Proof.Machine

/-- After RESET `SEQ` performs micro-operation 0 next (R223). -/
theorem fetch_resetStep (s : State) : fetch (resetStep s) = .uop 0#4 := rfl

/-- Micro-operation 0 is `CLK_EN`, whatever the parameters (R89). -/
theorem decode_uop_zero (p : Params) : decode p (.uop 0#4) = .ok .clkEn := rfl

/-- Settles O43: RESET is a turn in any state, and `resetStep` names every value. -/
theorem resetRestoresTheHarness : Obligations.ResetRestoresTheHarness := by
  intro s rest h
  refine ⟨resetStep (s.setSched rest), step_reset h, ?_⟩
  simp [fetch_resetStep, decode_uop_zero]

/-- Settles O44: each is a field of `State.resetWith` or of the frame format. -/
theorem resetValues : Obligations.ResetValues :=
  ⟨fun _ => ⟨rfl, rfl, rfl, rfl, rfl, rfl, rfl, rfl, rfl, rfl, rfl⟩, rfl, rfl, rfl⟩

/-- No transaction has been performed and `upc` is 0, so the trace is the empty beginning of the seven (R193). -/
theorem traceInv_launch (p : Params) (turns : List Turn) : TraceInv (launch p turns) :=
  ⟨0#32, 0#32, rfl, (fun _ he => nomatch he), (fun h => nomatch h), fun h => nomatch h⟩

/-- Settles O53: at `upc` 0 with empty buffers and histories; what speaks of a later `upc` or of a full buffer is
void. -/
theorem harnessInvAtLaunch : Obligations.HarnessInvAtLaunch := by
  intro p turns hp
  have hupc : (launch p turns).upc.toNat = 0 := rfl
  exact {
    legal := hp
    running := ⟨rfl, rfl⟩
    alone := rfl
    upcLegal := by omega
    clocks := rfl
    divisor := by omega
    control := rfl
    txPinRead := fun h => nomatch h
    rxPinRead := fun h => nomatch h
    txPin := by omega
    rxPin := by omega
    quiet := fun _ => ⟨rfl, rfl⟩
    received := fun h => nomatch h
    sendable := fun _ => rfl
    rxByte := fun h => nomatch h
    chByte := fun _ => rfl
    echo := rfl
    line := rfl
    trace := traceInv_launch p turns }

end Sys2Proof.Machine
end

section
/-! A bus transaction given by its byte address (spec/20_memory.md R51 to R57): the address map read backwards, then each
answer of the decoder in the order of its checks. -/

namespace Sys2Proof.Machine

/-! ### The address map read backwards -/

theorem addrOf_of_regAt {p : Params} {a : Word} {r : Reg} (h : regAt p a = some r) : addrOf p r = a := by
  simpa using List.find?_some h

theorem regAt_eq_none_iff {p : Params} {a : Word} : regAt p a = none ↔ ∀ r, addrOf p r ≠ a := by
  simp [regAt, List.find?_eq_none, reg_mem_all]

/-- Legal parameters map one register to an address, so the search finds it (R6, R51). -/
theorem regAt_addrOf {p : Params} (hl : p.legal = true) (r : Reg) : regAt p (addrOf p r) = some r := by
  cases hfind : regAt p (addrOf p r) with
  | none => exact absurd rfl (regAt_eq_none_iff.mp hfind r)
  | some r' => rw [addrOf_injective_of_legal hl (addrOf_of_regAt hfind)]

/-- The fourteen keys are distinct (R76). -/
theorem keyTarget_keyOf (d : Dir) (r : Reg) : keyTarget (keyOf d r) = some (d, r) := by
  cases d <;> cases r <;> rfl

theorem decodeKey_keyOf (d : Dir) (r : Reg) (v : Word) : decodeKey (keyOf d r) v = .ok (busInstr d r v) := by
  rw [decodeKey, keyTarget_keyOf]

/-! ### The decoder's checks -/

theorem aligned_iff (a : Word) : aligned a = true ↔ a.toNat % 4 = 0 := by
  simp [aligned]

theorem decodeBus_width {p : Params} {t : BusItem} (hw : t.width ≠ 4) : decodeBus p t = .error .width := by
  simp [decodeBus, hw]

theorem decodeBus_misaligned {p : Params} {t : BusItem} (hw : t.width = 4) (ha : t.addr.toNat % 4 ≠ 0) :
    decodeBus p t = .error .misaligned := by
  simp [decodeBus, hw, aligned_iff, ha]

theorem decodeBus_unmapped {p : Params} {t : BusItem} (hw : t.width = 4) (ha : t.addr.toNat % 4 = 0)
    (hr : regAt p t.addr = none) : decodeBus p t = .error .unmapped := by
  simp [decodeBus, hw, aligned_iff, ha, hr]

theorem decodeBus_mapped {p : Params} {t : BusItem} {r : Reg} (hw : t.width = 4) (ha : t.addr.toNat % 4 = 0)
    (hr : regAt p t.addr = some r) : decodeBus p t = .ok (busInstr t.dir r t.wdata) := by
  simp [decodeBus, hw, aligned_iff, ha, hr, decodeKey_keyOf]

/-- Settles O3: one answer of the decoder per clause; legality makes a register's address aligned and its own. -/
theorem busAddressSelectsTheRegister : Obligations.BusAddressSelectsTheRegister := by
  refine ⟨fun p d r v hl => ?_, fun p t hw => decodeBus_width hw, fun p t hw ha => decodeBus_misaligned hw ha,
    fun p t hw ha hr => ?_⟩
  · exact decodeBus_mapped (t := ⟨d, 4, addrOf p r, v⟩) rfl (addrOf_aligned_of_legal hl r) (regAt_addrOf hl r)
  · exact decodeBus_unmapped hw ha (regAt_eq_none_iff.mpr fun r => (hr r).symm)

end Sys2Proof.Machine
end

section
/-! The fault of an operation (spec/20_memory.md R58; spec/60_exceptions.md R197, R204): of the three cases of `ExecCase`
a closed gate is the one that records a fault. -/

namespace Sys2Proof.Machine

@[simp] theorem working_fault (s : State) (n : Nibble) (v c : Word) (ph : OpPhase) :
    (s.working n v c ph).fault = s.fault := rfl

/-- A transaction that takes place records no fault; one that is gated off changes nothing but the record. -/
theorem ExecCase.fault_cases {i : Instr} {s t : State} (h : ExecCase i s t) : t.fault = s.fault ∨
    ∃ r u, gateOpen r s = false ∧ (u = some s.upc ∨ u = none) ∧ t = raiseClockNotReady u (addrOf s.params r) s := by
  cases h with
  | gated r u closed hu ht => exact .inr ⟨r, u, closed, hu, ht⟩
  | read r n v c ph _ _ _ ht => exact .inl (by simp [ht])
  | write r w n v c ph _ _ _ _ ht => exact .inl (by simp [ht])

/-- Settles O38: an operation runs with no fault recorded, so a fault in its next state is the closed gate's. -/
theorem faultHasNoOtherEffect : Obligations.FaultHasNoOtherEffect := by
  intro i s t h hfault
  obtain ⟨⟨-, hnone⟩, hcase⟩ := exec_next_cases h
  rcases hcase.fault_cases with hkept | ⟨r, u, closed, hu, rfl⟩
  · exact absurd (hkept.trans hnone) hfault
  · exact ⟨r, u, closed, hu, raiseClockNotReady_eq hnone ..⟩

end Sys2Proof.Machine
end

section
/-! The poll loops of `receive` and `transmit` (spec/44_serial_channel.md R154, R155, R158, R159): what one poll does, and
by induction what any number of polls does while the awaited flag does not come. -/

namespace Sys2Proof.Machine

/-! ### One poll -/

/-- The state after one status read of a poll loop that then stands in the phase `ph` (R155, R159). -/
def State.polled (s : State) (ph : OpPhase) : State :=
  { s with
    tmp := readValue .usartStat s, phase := ph, draws := s.draws + 1
    busLog := s.busLog ++ [.read (s.params.usartBase + 0x00#32) (readValue .usartStat s)] }

/-- A status read with the gate open, its word kept in `tmp` (R107, log 11). -/
theorem busRead_usartStat_polled {s : State} (hopen : usart0en s = true) (u : Option Nibble) (ph : Word → OpPhase) :
    busRead u .usartStat s (fun v t => .next ((t.setTmp v).setPhase (ph v))) =
      .next (s.polled (ph (readValue .usartStat s))) :=
  busRead_open ((gateOpen_usartStat s).trans hopen) ..

theorem exec_receive_poll {s : State} (hr : Running s) (hopen : usart0en s = true) (hph : s.phase ≠ .receiveReady) :
    exec .receive s = .next (s.polled (if s.rxFull then .receiveReady else .receiveWaiting)) := by
  obtain ⟨_, rfl, -, -, hseen, -⟩ := readValue_usartStat s
  rw [show exec .receive s = execReceive s from rfl, execReceive, whenRunning_eq hr, if_neg hph,
    busRead_usartStat_polled hopen none fun v => if rbneSeen v then .receiveReady else .receiveWaiting, hseen]

theorem exec_transmit_poll {s : State} {v : Word} (hr : Running s) (hopen : usart0en s = true)
    (hph : s.phase ≠ .transmitReady v) :
    exec (.transmit v) s = .next (s.polled (if s.txFull then .transmitWaiting v else .transmitReady v)) := by
  obtain ⟨_, rfl, -, -, -, hseen⟩ := readValue_usartStat s
  rw [show exec (.transmit v) s = execTransmit v s from rfl, execTransmit, whenRunning_eq hr, if_neg hph,
    busRead_usartStat_polled hopen none fun w => if tbeSeen w then .transmitReady v else .transmitWaiting v, hseen]
  cases s.txFull <;> rfl

/-! ### Any number of polls -/

theorem execTimes_succ {i : Instr} {s t : State} {n : Nat} (h : execTimes i s n = .next t) :
    execTimes i s (n + 1) = exec i t := by
  simp [execTimes, h]

/-- `t` is `s` after `n` status reads whose word had `bit` 0, and nothing else but `tmp`, `phase` and `draws`. -/
def PolledTimes (bit : Nat) (s : State) (n : Nat) (t : State) : Prop :=
  ∃ l, t = { s with tmp := t.tmp, phase := t.phase, draws := s.draws + n, busLog := s.busLog ++ l } ∧
    l.length = n ∧ ∀ e ∈ l, ∃ w, e = .read (s.params.usartBase + 0x00#32) w ∧ w.getLsbD bit = false

theorem PolledTimes.zero (bit : Nat) (s : State) : PolledTimes bit s 0 s :=
  ⟨[], by simp, rfl, by simp⟩

theorem PolledTimes.succ {bit n : Nat} {s t : State} (h : PolledTimes bit s n t)
    (hbit : (readValue .usartStat t).getLsbD bit = false) (ph : OpPhase) :
    PolledTimes bit s (n + 1) (t.polled ph) := by
  obtain ⟨l, ht, hlen, hreads⟩ := h
  have hparams : t.params = s.params := by rw [ht]
  have hlog : t.busLog = s.busLog ++ l := by rw [ht]
  have hdraws : t.draws = s.draws + n := by rw [ht]
  refine ⟨l ++ [.read (s.params.usartBase + 0x00#32) (readValue .usartStat t)], ?_, by simp [hlen], ?_⟩
  · rw [← List.append_assoc, ← hlog, ← Nat.add_assoc, ← hdraws, ← hparams]
    rw [ht]
    rfl
  · intro e he
    rcases List.mem_append.mp he with he | he
    · exact hreads e he
    · exact ⟨_, List.mem_singleton.mp he, hbit⟩

/-- An operation that polls in vain wherever `Waits` holds, and leaves `Waits` in force, polls in vain for any number of
steps (R62). -/
theorem execTimes_polls {i : Instr} {bit : Nat} {ph : OpPhase} {Waits : State → Prop}
    (hpoll : ∀ t, Waits t → exec i t = .next (t.polled ph) ∧ (readValue .usartStat t).getLsbD bit = false ∧
      Waits (t.polled ph)) {s : State} (hs : Waits s) (n : Nat) :
    ∃ t, execTimes i s n = .next t ∧ Waits t ∧ PolledTimes bit s n t := by
  induction n with
  | zero => exact ⟨s, rfl, hs, .zero bit s⟩
  | succ n ih =>
    obtain ⟨t, hrun, ht, hpolled⟩ := ih
    obtain ⟨hexec, hbit, hwaits⟩ := hpoll t ht
    exact ⟨t.polled ph, (execTimes_succ hrun).trans hexec, hwaits, hpolled.succ hbit ph⟩

/-- `receive` polls and no character is there (R155). -/
structure ReceiveWaits (s : State) : Prop where
  running : Running s
  clocked : usart0en s = true
  empty : s.rxFull = false
  polling : s.phase ≠ .receiveReady

theorem ReceiveWaits.poll {s : State} (h : ReceiveWaits s) :
    exec .receive s = .next (s.polled .receiveWaiting) ∧ (readValue .usartStat s).getLsbD 5 = false ∧
      ReceiveWaits (s.polled .receiveWaiting) := by
  obtain ⟨_, rfl, hbit, -⟩ := readValue_usartStat s
  refine ⟨?_, hbit.trans h.empty, ⟨h.running, h.clocked, h.empty, nofun⟩⟩
  rw [exec_receive_poll h.running h.clocked h.polling, h.empty]
  rfl

/-- `transmit` of `v` polls and the buffer is full (R159). -/
structure TransmitWaits (v : Word) (s : State) : Prop where
  running : Running s
  clocked : usart0en s = true
  full : s.txFull = true
  polling : s.phase ≠ .transmitReady v

theorem TransmitWaits.poll {v : Word} {s : State} (h : TransmitWaits v s) :
    exec (.transmit v) s = .next (s.polled (.transmitWaiting v)) ∧ (readValue .usartStat s).getLsbD 7 = false ∧
      TransmitWaits v (s.polled (.transmitWaiting v)) := by
  obtain ⟨_, rfl, -, hbit, -⟩ := readValue_usartStat s
  refine ⟨?_, by rw [hbit, h.full]; rfl, ⟨h.running, h.clocked, h.full, nofun⟩⟩
  rw [exec_transmit_poll h.running h.clocked h.polling, h.full]
  rfl

/-- Settles O25: a poll in vain leaves the awaited flag and the phase such that the next poll is in vain too. -/
theorem pollLoopsWait : Obligations.PollLoopsWait := by
  intro s n hr hopen
  refine ⟨fun hempty hph => ?_, fun v hfull hph => ?_⟩
  · obtain ⟨t, hrun, -, l, hpolled⟩ := execTimes_polls (fun _ h => ReceiveWaits.poll h) ⟨hr, hopen, hempty, hph⟩ n
    exact ⟨t, l, hrun, hpolled⟩
  · obtain ⟨t, hrun, -, l, hpolled⟩ := execTimes_polls (fun _ h => TransmitWaits.poll h) ⟨hr, hopen, hfull, hph⟩ n
    exact ⟨t, l, hrun, hpolled⟩

end Sys2Proof.Machine
end

section
/-! The encodings (spec/30_encoding.md R76, R88, R89, R91): what a key, a driver-operation word and a `upc` value decode
to, and what decodes to nothing. -/

namespace Sys2Proof.Machine

/-! ### Keys -/

theorem keyOf_of_keyTarget {k : BitVec 8} {d : Dir} {r : Reg} (h : keyTarget k = some (d, r)) : keyOf d r = k := by
  unfold keyTarget at h
  split at h
  · rename_i hfind
    cases h
    simpa using List.find?_some hfind
  · obtain ⟨r', hfind, hr⟩ := Option.map_eq_some_iff.mp h
    cases hr
    simpa using List.find?_some hfind

/-- A key that decodes is one register's key for one direction (R76). -/
theorem busInstr_of_decodeKey {k : BitVec 8} {v : Word} {i : Instr} (h : decodeKey k v = .ok i) :
    ∃ d r, k = keyOf d r ∧ i = busInstr d r v := by
  unfold decodeKey at h
  split at h
  · rename_i d r htarget
    cases h
    exact ⟨d, r, (keyOf_of_keyTarget htarget).symm, rfl⟩
  · cases h

theorem decodeKey_unmapped {k : BitVec 8} (hk : ∀ d r, keyOf d r ≠ k) (v : Word) :
    decodeKey k v = .error .unmapped := by
  unfold decodeKey
  split
  · rename_i d r htarget
    exact absurd (keyOf_of_keyTarget htarget) (hk d r)
  · rfl

/-- A read does not carry its data word (R76). -/
theorem encode_busInstr_read (r : Reg) (v : Word) : encode (busInstr .read r v) = .port (.key (keyOf .read r) 0#32) := by
  cases r <;> rfl

theorem encode_busInstr_write (r : Reg) (v : Word) : encode (busInstr .write r v) = .port (.key (keyOf .write r) v) := by
  cases r <;> rfl

/-- Bit 7 of a key is the direction (R76). -/
theorem keyOf_read_bit7 (r : Reg) : (keyOf .read r).getLsbD 7 = false := by
  cases r <;> rfl

/-! ### Driver-operation words -/

@[simp] theorem opSelector_append (sel : BitVec 3) (operand : Word) : opSelector (sel ++ operand) = sel :=
  BitVec.extractLsb'_append_eq_left

@[simp] theorem opOperand_append (sel : BitVec 3) (operand : Word) : opOperand (sel ++ operand) = operand :=
  BitVec.extractLsb'_append_eq_right

/-- Bits of a word below 32 are its operand's. -/
theorem extractLsb'_opWord (sel : BitVec 3) (operand : Word) {start len : Nat} (h : start + len ≤ 32) :
    BitVec.extractLsb' start len (sel ++ operand : OpBits) = operand.extractLsb' start len :=
  BitVec.extractLsb'_append_eq_of_add_le h

/-- A word is its selector and its operand (R88). -/
theorem opSelector_append_opOperand (w : OpBits) : opSelector w ++ opOperand w = w :=
  BitVec.extractLsb'_append_extractLsb' (w := 3) (len := 32)

theorem encodeOp_opOperand {w : OpBits} {n : Nat} (h : (opSelector w).toNat = n) :
    encodeOp (BitVec.ofNat 3 n) (opOperand w) = .port (.op w) := by
  rw [← h, BitVec.ofNat_toNat, BitVec.setWidth_eq, encodeOp, opSelector_append_opOperand]

/-- The operand of a word is the bits above the low byte, then the two nibbles of that byte. -/
theorem opOperand_eq_append (w : OpBits) :
    opOperand w = w.extractLsb' 8 24 ++ w.extractLsb' 4 4 ++ w.extractLsb' 0 4 := by
  rw [BitVec.extractLsb'_append_extractLsb'_eq_extractLsb' (start₂ := 8) rfl,
    BitVec.extractLsb'_append_extractLsb'_eq_extractLsb' (start₂ := 4) rfl]
  rfl

theorem decodeOp_enable (mask : Word) : decodeOp (0b000#3 ++ mask) = .ok (.enable mask) := by
  simp [decodeOp]

/-- CONFIGURE's word is accepted where the operand bits above the low byte are 0 (R91). -/
theorem decodeOp_configureSelector (operand : Word) : decodeOp (0b001#3 ++ operand) =
    if operand.extractLsb' 8 24 = 0#24 then .ok (.configure (operand.extractLsb' 4 4) (operand.extractLsb' 0 4))
    else .error .reservedOperandBits := by
  simp [decodeOp, extractLsb'_opWord]

theorem decodeOp_configure (pin config : Nibble) :
    decodeOp (0b001#3 ++ (0#24 ++ pin ++ config)) = .ok (.configure pin config) := by
  have hreserved : (0#24 ++ pin ++ config).extractLsb' 8 24 = 0#24 := by
    rw [BitVec.extractLsb'_append_eq_of_le (by omega), BitVec.extractLsb'_append_eq_left]
  have hpin : (0#24 ++ pin ++ config).extractLsb' 4 4 = pin := by
    rw [BitVec.extractLsb'_append_eq_of_le (by omega), BitVec.extractLsb'_append_eq_right]
  have hconfig : (0#24 ++ pin ++ config).extractLsb' 0 4 = config := BitVec.extractLsb'_append_eq_right
  rw [decodeOp_configureSelector, if_pos hreserved, hpin, hconfig]

theorem decodeOp_configure_reserved {operand : Word} (h : operand >>> 8 ≠ 0#32) :
    decodeOp (0b001#3 ++ operand) = .error .reservedOperandBits := by
  rw [decodeOp_configureSelector, if_neg]
  intro hzero
  rw [BitVec.ushiftRight_eq_extractLsb'_of_lt (by omega), hzero] at h
  exact h rfl

theorem decodeOp_init (divisor : Word) : decodeOp (0b010#3 ++ divisor) = .ok (.init divisor) := by
  simp [decodeOp]

theorem decodeOp_receive : decodeOp (0b011#3 ++ 0#32) = .ok .receive := rfl

theorem decodeOp_receive_reserved {operand : Word} (h : operand ≠ 0#32) :
    decodeOp (0b011#3 ++ operand) = .error .reservedOperandBits := by
  simp [decodeOp, h]

theorem decodeOp_transmit (value : Word) : decodeOp (0b100#3 ++ value) = .ok (.transmit value) := by
  simp [decodeOp]

theorem decodeOp_reservedSelector {w : OpBits} (h : 5 ≤ (opSelector w).toNat) :
    decodeOp w = .error .reservedSelector := by
  unfold decodeOp
  split
  case h_6 => rfl
  all_goals omega

/-- An accepted word is the encoding of what it decodes to: the selector fixes the operation and the operand is kept
whole, reserved bits being zero (R88, R91). -/
theorem encode_of_decodeOp {w : OpBits} {i : Instr} (h : decodeOp w = .ok i) : encode i = .port (.op w) := by
  unfold decodeOp at h
  split at h
  case h_1 hsel =>
    cases h
    exact encodeOp_opOperand hsel
  case h_2 hsel =>
    split at h
    · rename_i hreserved
      cases h
      show encodeOp 0b001#3 (0#24 ++ w.extractLsb' 4 4 ++ w.extractLsb' 0 4) = .port (.op w)
      rw [← hreserved, ← opOperand_eq_append]
      exact encodeOp_opOperand hsel
    · cases h
  case h_3 hsel =>
    cases h
    exact encodeOp_opOperand hsel
  case h_4 hsel =>
    split at h
    · rename_i hzero
      cases h
      show encodeOp 0b011#3 0#32 = .port (.op w)
      rw [← hzero]
      exact encodeOp_opOperand hsel
    · cases h
  case h_5 hsel =>
    cases h
    exact encodeOp_opOperand hsel
  case h_6 => cases h

/-! ### Micro-program counter values -/

theorem encode_of_decodeUop {u : Nibble} {i : Instr} (h : decodeUop u = .ok i) : encode i = .uop u := by
  unfold decodeUop at h
  split at h
  case h_12 => cases h
  all_goals
    rename_i hu
    cases h
    exact congrArg CodeWord.uop (BitVec.eq_of_toNat_eq hu.symm)

theorem decodeUop_illegal {u : Nibble} (h : 11 ≤ u.toNat) : decodeUop u = .error (.illegalUpc u) := by
  unfold decodeUop
  split
  case h_12 => rfl
  all_goals omega

/-! ### The statements -/

/-- Settles O1: a bus transaction by its key, a driver operation by its selector, a micro-operation by its number. -/
theorem decodeOfEncodeIsTheInstruction : Obligations.DecodeOfEncodeIsTheInstruction := by
  intro p i
  cases i with
  | rdRcuClken => exact decodeKey_keyOf .read .rcuClken 0#32
  | wrRcuClken v => exact decodeKey_keyOf .write .rcuClken v
  | rdGpioCtl0 => exact decodeKey_keyOf .read .gpioCtl0 0#32
  | wrGpioCtl0 v => exact decodeKey_keyOf .write .gpioCtl0 v
  | rdGpioCtl1 => exact decodeKey_keyOf .read .gpioCtl1 0#32
  | wrGpioCtl1 v => exact decodeKey_keyOf .write .gpioCtl1 v
  | rdUsartStat => exact decodeKey_keyOf .read .usartStat 0#32
  | wrUsartStat v => exact decodeKey_keyOf .write .usartStat v
  | rdUsartData => exact decodeKey_keyOf .read .usartData 0#32
  | wrUsartData v => exact decodeKey_keyOf .write .usartData v
  | rdUsartBaud => exact decodeKey_keyOf .read .usartBaud 0#32
  | wrUsartBaud v => exact decodeKey_keyOf .write .usartBaud v
  | rdUsartCtl0 => exact decodeKey_keyOf .read .usartCtl0 0#32
  | wrUsartCtl0 v => exact decodeKey_keyOf .write .usartCtl0 v
  | enable mask => exact decodeOp_enable mask
  | configure pin config => exact decodeOp_configure pin config
  | init divisor => exact decodeOp_init divisor
  | receive => exact decodeOp_receive
  | transmit value => exact decodeOp_transmit value
  | clkEn | txpRd | txpWr | rxpRd | rxpWr | baudWr | ctlWr | rxPoll | rxRead | txPoll | txWrite => rfl

/-- Settles O2: a key is its register's and its direction's; only a read leaves its data word behind. -/
theorem acceptedWordIsTheEncoding : Obligations.AcceptedWordIsTheEncoding := by
  refine ⟨fun w i => encode_of_decodeOp, fun u i => encode_of_decodeUop, fun k v i h => ?_⟩
  obtain ⟨d, r, rfl, rfl⟩ := busInstr_of_decodeKey h
  cases d with
  | read => exact .inr ⟨keyOf_read_bit7 r, encode_busInstr_read r v⟩
  | write => exact .inl (encode_busInstr_write r v)

/-- Settles O4: one answer of the decoder per clause; the fourteen keys are listed in the statement. -/
theorem reservedEncodingsAreRejected : Obligations.ReservedEncodingsAreRejected := by
  refine ⟨fun w => decodeOp_reservedSelector, fun operand => decodeOp_configure_reserved,
    fun operand => decodeOp_receive_reserved, fun k v hk => decodeKey_unmapped (fun d r hkey => hk ?_) v,
    fun u => decodeUop_illegal⟩
  rw [← hkey]
  cases d <;> cases r <;> decide

/-- Settles O5: each word is written out, so the decoder computes its operation. -/
theorem specWordsDecode : Obligations.SpecWordsDecode :=
  ⟨rfl, rfl, rfl, rfl, rfl, rfl, rfl, rfl, rfl, rfl⟩

end Sys2Proof.Machine
end

section
/-! Operands (spec/30_encoding.md R85 to R87, R95; spec/42_pin_configure.md R132, R138, R141; spec/43_usart_init_baud.md
R145 to R148): the inserted field inside and outside its place, the packing and its inverse, the divisor and the rate. -/

namespace Sys2Proof.Machine

/-! ### The inserted field -/

/-- Outside the pin's field an inserted word is the old word (R132). -/
theorem insertField_outside (old : Word) (pin config : Nibble) :
    insertField old pin config &&& ~~~fieldMask pin = old &&& ~~~fieldMask pin := by
  apply BitVec.eq_of_getLsbD_eq
  intro i hi
  simp only [BitVec.getLsbD_and, BitVec.getLsbD_not, insertField_getLsbD _ _ _ _ hi, fieldMask_getLsbD _ _ hi]
  by_cases hfield : pinShift pin ≤ i ∧ i < pinShift pin + 4
  · simp [hfield]
  · simp [hfield]

/-- Inside the pin's field an inserted word has the configuration (R95, R132). -/
theorem fieldOf_insertField (old : Word) (pin config : Nibble) :
    fieldOf (insertField old pin config) (pin.toNat % 8) = config := by
  have hshift : 4 * (pin.toNat % 8) = pinShift pin := Nat.mul_comm ..
  have hle := pinShift_le pin
  apply BitVec.eq_of_getLsbD_eq
  intro i hi
  have hfield : pinShift pin ≤ pinShift pin + i ∧ pinShift pin + i < pinShift pin + 4 := by omega
  rw [fieldOf, hshift, BitVec.getLsbD_extractLsb', insertField_getLsbD _ _ _ _ (by omega), if_pos hfield,
    Nat.add_sub_cancel_left]
  simp [hi]

/-- The pin's field of a word, cut out with the mask, is that field read back (R95, R132). -/
theorem masked_field_eq (w : Word) (pin : Nibble) :
    (w &&& fieldMask pin) >>> pinShift pin = (fieldOf w (pin.toNat % 8)).setWidth 32 := by
  have hshift : 4 * (pin.toNat % 8) = pinShift pin := Nat.mul_comm ..
  have hle := pinShift_le pin
  apply BitVec.eq_of_getLsbD_eq
  intro i hi
  simp only [BitVec.getLsbD_ushiftRight, BitVec.getLsbD_and, BitVec.getLsbD_setWidth, hi, decide_true, Bool.true_and,
    fieldOf, BitVec.getLsbD_extractLsb', hshift]
  by_cases hfield : i < 4
  · rw [fieldMask_getLsbD _ _ (by omega)]
    simp [hfield]
  · by_cases hword : pinShift pin + i < 32
    · rw [fieldMask_getLsbD _ _ hword]
      simp [hfield]
    · simp [hfield, BitVec.getLsbD_of_ge _ _ (Nat.le_of_not_lt hword)]

/-- Settles O21: the words of the statement are the model's field mask and shift. -/
theorem insertedFieldIsExact : Obligations.InsertedFieldIsExact := fun old pin config =>
  ⟨insertField_outside old pin config,
    (masked_field_eq _ pin).trans (congrArg (·.setWidth 32) (fieldOf_insertField old pin config))⟩

/-! ### Packing -/

@[simp] theorem fieldMode_pinConfig (mode ctl : BitVec 2) : fieldMode (pinConfig mode ctl) = mode :=
  BitVec.extractLsb'_append_eq_right

@[simp] theorem fieldCtl_pinConfig (mode ctl : BitVec 2) : fieldCtl (pinConfig mode ctl) = ctl :=
  BitVec.extractLsb'_append_eq_left

/-- Settles O45: the inserted field is read back whole, then taken apart. -/
theorem packAndUnpackAgree : Obligations.PackAndUnpackAgree := by
  refine fun pin mode ctl => ⟨rfl, fun old => ?_⟩
  rw [fieldOf_insertField]
  exact ⟨fieldMode_pinConfig mode ctl, fieldCtl_pinConfig mode ctl⟩

/-- Settles O46: over the sixteen values of a field. -/
theorem pinFunctionsOfFields : Obligations.PinFunctionsOfFields := by
  unfold Obligations.PinFunctionsOfFields
  decide

/-! ### The divisor and the bit rate -/

/-- The divisor is the floor of the quotient (R87, R145). -/
theorem divisorOf_floor (clock : Nat) {rate : Nat} (h : 0 < rate) :
    divisorOf clock rate * rate ≤ clock ∧ clock < (divisorOf clock rate + 1) * rate :=
  ⟨Nat.div_mul_le_self clock rate, Nat.lt_mul_of_div_lt (Nat.lt_succ_self _) h⟩

/-- With a legal divisor and the USART enabled the generator runs (R147). -/
theorem bitRate_of_legal {s : State} (hu : uen s = true) (hb : baudOk s = true) :
    bitRate s = some ⟨s.params.clockFreq, s.usartBaud.toNat⟩ ∧
      bitPeriod s = some ⟨s.usartBaud.toNat, s.params.clockFreq⟩ := by
  simp [bitRate, bitPeriod, hu, hb]

/-- With no legal divisor it does not (R148). -/
theorem bitRate_of_illegal {s : State} (hb : baudOk s = false) : bitRate s = none ∧ bitPeriod s = none := by
  simp [bitRate, bitPeriod, hb]

/-- Settles O47: the floor for every quotient, three of them computed, and the generator on or off with `baudOk`. -/
theorem divisorAndBitRate : Obligations.DivisorAndBitRate :=
  ⟨fun clock _ hrate => divisorOf_floor clock hrate, rfl, rfl, rfl,
    fun _ hu hlow hhigh => bitRate_of_legal hu ((divisorLegal_iff _).mpr ⟨hlow, hhigh⟩),
    fun _ hillegal => bitRate_of_illegal (divisorLegal_false hillegal)⟩

end Sys2Proof.Machine
end

section
/-! A `SEQ` step performs the operation that what it fetches decodes to (spec/30_encoding.md R75;
spec/45_main_sequencer.md R176, R194), and a table word placed at the front is what it fetches (log 19). -/

namespace Sys2Proof.Machine

/-! ### What `SEQ` performs -/

theorem fetch_of_alone {s : State} (h : s.port = []) : fetch s = .uop s.upc := by
  simp [fetch, h]

theorem seqStep_of_decode {s : State} {i : Instr} (hr : Running s) (hd : decode s.params (fetch s) = .ok i) :
    seqStep s = settle (fetch s) s (exec i s) := by
  rw [seqStep, whenRunning_eq hr, hd]

theorem step_of_unscheduled {s : State} (hl : s.params.legal = true) (h : s.sched = []) : step s = seqStep s := by
  rw [step_of_legal hl, nextTurn, h]

/-- A scheduled `SEQ` turn is a `SEQ` step while nothing is recorded (R8). -/
theorem step_of_seq {s : State} {rest : List Turn} (hl : s.params.legal = true) (hr : Running s)
    (h : s.sched = .seq :: rest) : step s = seqStep (s.setSched rest) := by
  rw [step_of_legal hl, nextTurn, h]
  exact seqTurn_eq_seqStep (.inr hr.2)

/-- Settles O6: the schedule is no part of what is fetched, decoded and checked. -/
theorem stepRunsTheDecodedInstruction : Obligations.StepRunsTheDecodedInstruction := by
  refine fun s i hl hr hd => ⟨fetch_of_alone, fun it rest => fetch_of_port, fun h => ?_, fun rest h => ?_⟩
  · rw [step_of_unscheduled hl h, seqStep_of_decode hr hd]
  · rw [step_of_seq hl hr h]
    exact seqStep_of_decode (s := s.setSched rest) hr hd

/-! ### A table word -/

/-- No table word is a transaction by address, so none needs the bases (log 19). -/
theorem decode_tableCodeWord (p q : Params) (nbits w : Nat) :
    decode p (tableCodeWord nbits w) = decode q (tableCodeWord nbits w) := by
  unfold tableCodeWord
  split
  · split <;> rfl
  · rfl

theorem decode_of_decodeTableWord {nbits w : Nat} {i : Instr} (h : decodeTableWord nbits w = some i) (p : Params) :
    decode p (tableCodeWord nbits w) = .ok i := by
  rw [decode_tableCodeWord p Config.binding]
  unfold decodeTableWord at h
  split at h
  · rename_i hd
    cases h
    exact hd
  · cases h

section
variable (s : State) (nbits w : Nat)

/-- Placing a word writes `upc`, the port, the phase and the schedule alone. -/
theorem withFetchWord_eq : ∃ u port ph, s.withFetchWord nbits w =
    { s with upc := u, port := port, phase := ph, sched := .seq :: s.sched } := by
  unfold State.withFetchWord
  split
  · exact ⟨_, _, _, rfl⟩
  · exact ⟨_, _, _, rfl⟩

@[simp] theorem withFetchWord_params : (s.withFetchWord nbits w).params = s.params := by
  obtain ⟨u, port, ph, h⟩ := withFetchWord_eq s nbits w
  rw [h]

@[simp] theorem withFetchWord_sched : (s.withFetchWord nbits w).sched = .seq :: s.sched := by
  obtain ⟨u, port, ph, h⟩ := withFetchWord_eq s nbits w
  rw [h]

theorem running_withFetchWord {s : State} (h : Running s) : Running (s.withFetchWord nbits w) := by
  obtain ⟨u, port, ph, hw⟩ := withFetchWord_eq s nbits w
  rw [hw]
  exact h

/-- The placed word is what `SEQ` fetches, whatever turns are to come. -/
theorem fetch_withFetchWord (l : List Turn) :
    fetch ((s.withFetchWord nbits w).setSched l) = tableCodeWord nbits w := by
  unfold State.withFetchWord
  split
  · rename_i hword
    exact hword.symm
  · rename_i hword
    exact hword.symm

end

/-- Settles O8: the next turn is `SEQ`'s, and what it fetches is the word. -/
theorem tableWordRunsNext : Obligations.TableWordRunsNext := by
  intro s nbits w i hl hr hi
  have hfetch := fetch_withFetchWord s nbits w s.sched
  rw [step_of_seq ((congrArg Params.legal (withFetchWord_params ..)).trans hl) (running_withFetchWord nbits w hr)
    (withFetchWord_sched ..), ← hfetch]
  refine seqStep_of_decode (s := (s.withFetchWord nbits w).setSched s.sched) (running_withFetchWord nbits w hr) ?_
  rw [hfetch]
  exact decode_of_decodeTableWord hi _

end Sys2Proof.Machine
end

section
/-! Start-up twice (spec/30_encoding.md R94; spec/45_main_sequencer.md R177, R194): the micro-program and the driver
operations presented at the port, in step. One transaction of each leads from states that differ in `upc`, the port and
the phase alone to such states. -/

namespace Sys2Proof.Machine

/-! ### One transaction, by either side -/

/-- The state after a write transaction (R53). -/
def State.wrote (s : State) (r : Reg) (v : Word) : State :=
  (writeEffect r v s).logBus (.write (addrOf s.params r) v)

/-- The state after a read of a pin's register into `tmp` (R33, R103, R105). -/
def State.pinRead (s : State) (pin : Nibble) : State :=
  (s.logBus (.read (addrOf s.params (gpioReg pin)) (gpioWord s pin))).setTmp (gpioWord s pin)

theorem microWrite_open {r : Reg} {v : Word} {s : State} (hr : Running s) (hopen : gateOpen r s = true)
    (hlegal : writeRefusal r v s = none) (n : Nibble) : microWrite r v n s = .next ((s.wrote r v).setUpc n) := by
  rw [microWrite, whenRunning_eq hr, busWrite_open hopen hlegal]
  rfl

theorem microRead_pin {pin : Nibble} {s : State} (hr : Running s) (hopen : paen s = true) (n : Nibble) :
    microRead (gpioReg pin) s (fun v t => (t.setTmp v).setUpc n) = .next ((s.pinRead pin).setUpc n) := by
  rw [microRead, whenRunning_eq hr, busRead_open ((gateOpen_gpioReg pin s).trans hopen), readValue_gpioReg,
    readEffect_gpioReg]
  rfl

/-- One write transaction of a driver operation, which then stands in the phase `ph` (R162). -/
def opWrite (r : Reg) (v : Word) (ph : OpPhase) (s : State) : Result :=
  whenRunning s (busWrite none r v s fun t => .next (t.setPhase ph))

theorem opWrite_open {r : Reg} {v : Word} {s : State} (hr : Running s) (hopen : gateOpen r s = true)
    (hlegal : writeRefusal r v s = none) (ph : OpPhase) : opWrite r v ph s = .next ((s.wrote r v).setPhase ph) := by
  rw [opWrite, whenRunning_eq hr, busWrite_open hopen hlegal]
  rfl

theorem exec_enable (mask : Word) (s : State) : exec (.enable mask) s = opWrite .rcuClken mask .idle s := rfl

theorem exec_configure_read {pin config : Nibble} {s : State} (hr : Running s) (hopen : paen s = true)
    (hph : s.phase ≠ .configureWrite pin config) :
    exec (.configure pin config) s = .next ((s.pinRead pin).setPhase (.configureWrite pin config)) := by
  show execConfigure pin config s = _
  rw [execConfigure, whenRunning_eq hr, if_neg hph, busRead_open ((gateOpen_gpioReg pin s).trans hopen),
    readValue_gpioReg, readEffect_gpioReg]
  rfl

theorem exec_configure_write {pin config : Nibble} {s : State} (hph : s.phase = .configureWrite pin config) :
    exec (.configure pin config) s = opWrite (gpioReg pin) (insertField s.tmp pin config) .idle s := by
  show execConfigure pin config s = _
  rw [execConfigure, if_pos hph, opWrite]

theorem exec_init_baud {divisor : Word} {s : State} (hph : s.phase ≠ .initControl divisor) :
    exec (.init divisor) s = opWrite .usartBaud divisor (.initControl divisor) s := by
  show execInit divisor s = _
  rw [execInit, if_neg hph, opWrite]

theorem exec_init_control {divisor : Word} {s : State} (hph : s.phase = .initControl divisor) :
    exec (.init divisor) s = opWrite .usartCtl0 Config.usartEnWord .idle s := by
  show execInit divisor s = _
  rw [execInit, if_pos hph, opWrite]

/-! ### The gates of start-up -/

/-- `CLK_MASK` sets PAEN (R80). -/
theorem paen_of_clkMask {s : State} (h : s.rcuClken = Config.clkMask) : paen s = true := by
  rw [paen, h]
  rfl

/-- `CLK_MASK` sets USART0EN (R80). -/
theorem usart0en_of_clkMask {s : State} (h : s.rcuClken = Config.clkMask) : usart0en s = true := by
  rw [usart0en, h]
  rfl

/-- A write of another register leaves the gates as they are. -/
theorem wrote_rcuClken {r : Reg} (hr : r ≠ .rcuClken) (s : State) (v : Word) : (s.wrote r v).rcuClken = s.rcuClken := by
  cases r with
  | rcuClken => exact absurd rfl hr
  | _ => rfl

theorem gpioReg_ne_rcuClken (pin : Nibble) : gpioReg pin ≠ .rcuClken := by
  unfold gpioReg
  split <;> nofun

/-! ### The two sides in step -/

/-- The same state with items at the port instead of the micro-program, which then stays at its beginning. -/
def State.presenting (s : State) (l : List PortItem) (ph : OpPhase) : State :=
  { s with upc := 0#4, port := l, phase := ph }

theorem gateOpen_presenting (r : Reg) (s : State) (l : List PortItem) (ph : OpPhase) :
    gateOpen r (s.presenting l ph) = gateOpen r s := by
  cases r <;> rfl

theorem writeRefusal_presenting (r : Reg) (v : Word) (s : State) (l : List PortItem) (ph : OpPhase) :
    writeRefusal r v (s.presenting l ph) = writeRefusal r v s := by
  cases r <;> rfl

theorem wrote_presenting (r : Reg) (v : Word) (s : State) (l : List PortItem) (ph ph' : OpPhase) :
    ((s.presenting l ph).wrote r v).setPhase ph' = (s.wrote r v).presenting l ph' := by
  cases r <;> rfl

/-- The harness with nothing at its port, between two micro-operations, under the parameters `p`. -/
structure Alone (p : Params) (s : State) : Prop where
  params : s.params = p
  running : Running s
  port : s.port = []
  phase : s.phase = .idle
  sched : s.sched = []

theorem Alone.wrote {p : Params} {s : State} (h : Alone p s) (r : Reg) (v : Word) : Alone p (s.wrote r v) where
  params := (writeEffect_params ..).trans h.params
  running := ⟨(writeEffect_refused ..).trans h.running.1, (writeEffect_fault ..).trans h.running.2⟩
  port := (writeEffect_port ..).trans h.port
  phase := (writeEffect_phase ..).trans h.phase
  sched := (writeEffect_sched ..).trans h.sched

theorem Alone.pinRead {p : Params} {s : State} (h : Alone p s) (pin : Nibble) : Alone p (s.pinRead pin) :=
  ⟨h.params, h.running, h.port, h.phase, h.sched⟩

theorem Alone.setUpc {p : Params} {s : State} (h : Alone p s) (n : Nibble) : Alone p (s.setUpc n) :=
  ⟨h.params, h.running, h.port, h.phase, h.sched⟩

/-- `m` is the harness at micro-operation `n` of start-up, `d` the same harness with `l` at the port and a driver
operation in the phase `ph`; after micro-operation 0 the clocks are on (R178). -/
structure InStep (p : Params) (n : Nibble) (l : List PortItem) (ph : OpPhase) (m d : State) : Prop where
  alone : Alone p m
  upc : m.upc = n
  clocked : n ≠ 0#4 → m.rcuClken = Config.clkMask
  presented : d = m.presenting l ph

/-- One step of each side leads into step again. -/
def StepsTo (m d : State) (p : Params) (n : Nibble) (l : List PortItem) (ph : OpPhase) : Prop :=
  ∃ m' d', step m = .next m' ∧ step d = .next d' ∧ InStep p n l ph m' d'

theorem step_of_exec {s t : State} {cw : CodeWord} {i : Instr} (hl : s.params.legal = true) (hr : Running s)
    (hsched : s.sched = []) (hfetch : fetch s = cw) (hd : decode s.params cw = .ok i) (he : exec i s = .next t) :
    step s = .next (retire cw t) := by
  subst hfetch
  rw [step_of_unscheduled hl hsched, seqStep_of_decode hr hd, he]
  rfl

theorem retire_uop (u : Nibble) (t : State) : retire (.uop u) t = t := by
  simp [retire, finished]

/-- What is left at the port once the operation at its head stands in the phase `ph` (R194). -/
def portAfter (w : OpBits) (rest : List PortItem) : OpPhase → List PortItem
  | .idle => rest
  | _ => .op w :: rest

theorem retire_presenting {x : State} (hx : x.fault = none) (w : OpBits) (rest : List PortItem) (ph : OpPhase) :
    retire (.port (.op w)) (x.presenting (.op w :: rest) ph) = x.presenting (portAfter w rest ph) ph := by
  have hfault (l : List PortItem) : (x.presenting l ph).fault.isNone = true := by simp [State.presenting, hx]
  cases ph <;> simp only [retire, finished, hfault] <;> rfl

section
variable {p : Params} {n n' : Nibble} {i j : Instr} {w : OpBits} {rest : List PortItem} {ph ph' : OpPhase} {m d : State}

/-- A micro-operation and a driver operation's step that lead to one state, but for `upc`, port and phase. -/
theorem InStep.next {x : State} (h : InStep p n (.op w :: rest) ph m d) (hl : p.legal = true)
    (hi : decodeUop n = .ok i) (hj : decodeOp w = .ok j) (hm : exec i m = .next (x.setUpc n'))
    (hd : exec j d = .next (x.presenting (.op w :: rest) ph')) (hx : Alone p x) (hclk : x.rcuClken = Config.clkMask) :
    StepsTo m d p n' (portAfter w rest ph') ph' := by
  obtain ⟨⟨rfl, hrunning, hport, hphase, hsched⟩, rfl, -, rfl⟩ := h
  have hm' := step_of_exec hl hrunning hsched (fetch_of_alone hport) hi hm
  have hd' := step_of_exec (s := m.presenting (.op w :: rest) ph) (cw := .port (.op w)) hl hrunning hsched
    (fetch_of_port rfl) hj hd
  rw [retire_uop] at hm'
  rw [retire_presenting hx.running.2] at hd'
  exact ⟨_, _, hm', hd', hx.setUpc n', rfl, fun _ => hclk, rfl⟩

/-- Both sides perform the same write. -/
theorem InStep.write {r : Reg} {v : Word} (h : InStep p n (.op w :: rest) ph m d) (hl : p.legal = true)
    (hi : decodeUop n = .ok i) (hj : decodeOp w = .ok j) (hm : exec i m = microWrite r v n' m)
    (hd : exec j d = opWrite r v ph' d) (hopen : gateOpen r m = true) (hlegal : writeRefusal r v m = none)
    (hclk : (m.wrote r v).rcuClken = Config.clkMask) : StepsTo m d p n' (portAfter w rest ph') ph' := by
  have hrunning : Running d := h.presented ▸ h.alone.running
  refine h.next hl hi hj (hm.trans (microWrite_open h.alone.running hopen hlegal n')) (hd.trans ?_)
    (h.alone.wrote r v) hclk
  rw [h.presented] at hrunning ⊢
  rw [opWrite_open hrunning ((gateOpen_presenting ..).trans hopen) ((writeRefusal_presenting ..).trans hlegal),
    wrote_presenting]

/-- Both sides read the pin's register (R128, R179, R181). -/
theorem InStep.configureRead {pin config : Nibble} (h : InStep p n (.op w :: rest) .idle m d) (hl : p.legal = true)
    (hi : decodeUop n = .ok i) (hj : decodeOp w = .ok (.configure pin config))
    (hm : exec i m = microRead (gpioReg pin) m fun v t => (t.setTmp v).setUpc n') (hn : n ≠ 0#4) :
    StepsTo m d p n' (.op w :: rest) (.configureWrite pin config) := by
  have hclk := h.clocked hn
  have hrunning : Running d := h.presented ▸ h.alone.running
  refine h.next (ph' := .configureWrite pin config) hl hi hj
    (hm.trans (microRead_pin h.alone.running (paen_of_clkMask hclk) n')) ?_ (h.alone.pinRead pin) hclk
  rw [h.presented] at hrunning ⊢
  exact exec_configure_read hrunning (paen_of_clkMask (s := m.presenting _ _) hclk) nofun

/-- Both sides write the pin's register back with the field inserted (R128, R180, R182). -/
theorem InStep.configureWrite {pin config : Nibble} (h : InStep p n (.op w :: rest) (.configureWrite pin config) m d)
    (hl : p.legal = true) (hi : decodeUop n = .ok i) (hj : decodeOp w = .ok (.configure pin config))
    (hm : exec i m = microWrite (gpioReg pin) (insertField m.tmp pin config) n' m) (hn : n ≠ 0#4) :
    StepsTo m d p n' rest .idle := by
  have hclk := h.clocked hn
  refine h.write (ph' := .idle) hl hi hj hm ?_ ((gateOpen_gpioReg pin m).trans (paen_of_clkMask hclk))
    (writeRefusal_gpioReg ..) ((wrote_rcuClken (gpioReg_ne_rcuClken pin) ..).trans hclk)
  rw [h.presented]
  exact exec_configure_write rfl

end

/-! ### The seven steps -/

section
variable {p : Params} {w : OpBits} {rest : List PortItem} {m d : State}

theorem InStep.clkEn (h : InStep p 0#4 (.op w :: rest) .idle m d) (hl : p.legal = true)
    (hj : decodeOp w = .ok (.enable Config.clkMask)) : StepsTo m d p 1#4 rest .idle :=
  h.write hl rfl hj rfl (exec_enable _ d) rfl rfl rfl

theorem InStep.txpRd (h : InStep p 1#4 (.op w :: rest) .idle m d) (hl : p.legal = true)
    (hj : decodeOp w = .ok (.configure p.txPin Config.txConfig)) :
    StepsTo m d p 2#4 (.op w :: rest) (.configureWrite p.txPin Config.txConfig) := by
  obtain rfl := h.alone.params
  exact h.configureRead hl rfl hj rfl nofun

theorem InStep.txpWr (h : InStep p 2#4 (.op w :: rest) (.configureWrite p.txPin Config.txConfig) m d)
    (hl : p.legal = true) (hj : decodeOp w = .ok (.configure p.txPin Config.txConfig)) :
    StepsTo m d p 3#4 rest .idle := by
  obtain rfl := h.alone.params
  exact h.configureWrite hl rfl hj rfl nofun

theorem InStep.rxpRd (h : InStep p 3#4 (.op w :: rest) .idle m d) (hl : p.legal = true)
    (hj : decodeOp w = .ok (.configure p.rxPin Config.rxConfig)) :
    StepsTo m d p 4#4 (.op w :: rest) (.configureWrite p.rxPin Config.rxConfig) := by
  obtain rfl := h.alone.params
  exact h.configureRead hl rfl hj rfl nofun

theorem InStep.rxpWr (h : InStep p 4#4 (.op w :: rest) (.configureWrite p.rxPin Config.rxConfig) m d)
    (hl : p.legal = true) (hj : decodeOp w = .ok (.configure p.rxPin Config.rxConfig)) :
    StepsTo m d p 5#4 rest .idle := by
  obtain rfl := h.alone.params
  exact h.configureWrite hl rfl hj rfl nofun

/-- The divisor of legal parameters is not refused (R183). -/
theorem InStep.baudWr (h : InStep p 5#4 (.op w :: rest) .idle m d) (hl : p.legal = true)
    (hj : decodeOp w = .ok (.init (divisorWord p))) :
    StepsTo m d p 6#4 (.op w :: rest) (.initControl (divisorWord p)) := by
  obtain rfl := h.alone.params
  have hclk := h.clocked nofun
  refine h.write hl rfl hj rfl (exec_init_baud ?_) (usart0en_of_clkMask hclk) ?_ hclk
  · rw [h.presented]
    nofun
  · rw [writeRefusal, if_pos (divisorWord_legal hl)]

theorem InStep.ctlWr (h : InStep p 6#4 (.op w :: rest) (.initControl (divisorWord p)) m d) (hl : p.legal = true)
    (hj : decodeOp w = .ok (.init (divisorWord p))) : StepsTo m d p 7#4 rest .idle := by
  have hclk := h.clocked nofun
  refine h.write hl rfl hj rfl (exec_init_control ?_) (usart0en_of_clkMask hclk) rfl hclk
  rw [h.presented]
  rfl

end

/-! ### The run -/

theorem core_run_succ {s t : State} (h : step s = .next t) (k : Nat) :
    Host.Core.run Sys2Proof.core (k + 1) s = Host.Core.run Sys2Proof.core k t := by
  have hcore : Sys2Proof.core.step s = .next t := h
  simp only [Host.Core.run, hcore]

/-- The four driver operations as the items of the port (R88, R94). -/
theorem startupOps_portItems (p : Params) : (startupOps p).filterMap portItem =
    [.op (0b000#3 ++ Config.clkMask), .op (0b001#3 ++ (0#24 ++ p.txPin ++ Config.txConfig)),
      .op (0b001#3 ++ (0#24 ++ p.rxPin ++ Config.rxConfig)), .op (0b010#3 ++ divisorWord p)] := rfl

/-- Settles O59: seven steps of both sides in step; at the end the port is empty and no operation is under way. -/
theorem microProgramPerformsTheDriverOperations : Obligations.MicroProgramPerformsTheDriverOperations := by
  intro s hl hr hport hphase hsched hupc
  have h0 : InStep s.params 0#4 ((startupOps s.params).filterMap portItem) .idle s
      { s with port := (startupOps s.params).filterMap portItem } :=
    ⟨⟨rfl, hr, hport, hphase, hsched⟩, hupc, fun h => absurd rfl h, by rw [State.presenting, ← hupc, ← hphase]⟩
  rw [startupOps_portItems] at h0 ⊢
  obtain ⟨m1, d1, hm1, hd1, h1⟩ := h0.clkEn hl (decodeOp_enable _)
  obtain ⟨m2, d2, hm2, hd2, h2⟩ := h1.txpRd hl (decodeOp_configure ..)
  obtain ⟨m3, d3, hm3, hd3, h3⟩ := h2.txpWr hl (decodeOp_configure ..)
  obtain ⟨m4, d4, hm4, hd4, h4⟩ := h3.rxpRd hl (decodeOp_configure ..)
  obtain ⟨m5, d5, hm5, hd5, h5⟩ := h4.rxpWr hl (decodeOp_configure ..)
  obtain ⟨m6, d6, hm6, hd6, h6⟩ := h5.baudWr hl (decodeOp_init _)
  obtain ⟨m7, d7, hm7, hd7, h7⟩ := h6.ctlWr hl (decodeOp_init _)
  refine ⟨m7, ?_, h7.upc, ?_⟩
  · rw [core_run_succ hm1, core_run_succ hm2, core_run_succ hm3, core_run_succ hm4, core_run_succ hm5,
      core_run_succ hm6, core_run_succ hm7]
    rfl
  · rw [core_run_succ hd1, core_run_succ hd2, core_run_succ hd3, core_run_succ hd4, core_run_succ hd5,
      core_run_succ hd6, core_run_succ hd7, h7.presented, State.presenting, ← h7.alone.port,
      ← h7.alone.phase]
    rfl

end Sys2Proof.Machine
end

section
/-! Refusals (spec/40_bus_register_access.md R115; spec/60_exceptions.md R207): a `SEQ` step whose operation or word is
refused records the reason and nothing else, and a recorded refusal answers every operation and every turn but RESET. -/

namespace Sys2Proof.Machine

/-! ### Recording a refusal -/

theorem step_records_exec_refusal {s : State} {i : Instr} {r : Refusal} (hl : s.params.legal = true) (hr : Running s)
    (hs : s.sched = []) (hd : decode s.params (fetch s) = .ok i) (he : exec i s = .refused r) :
    step s = .next (s.markRefused r) := by
  rw [step_of_unscheduled hl hs, seqStep_of_decode hr hd, he, settle]

theorem seqStep_of_decode_error {s : State} {e : DecodeError} (hr : Running s)
    (hd : decode s.params (fetch s) = .error e) : seqStep s = .next (rejectWord e s) := by
  rw [seqStep, whenRunning_eq hr, hd]

theorem step_records_decode_refusal {s : State} {e : DecodeError} {r : Refusal} (hl : s.params.legal = true)
    (hr : Running s) (hs : s.sched = []) (hd : decode s.params (fetch s) = .error e)
    (he : DecodeError.refusal e = some r) : step s = .next (s.markRefused r) := by
  rw [step_of_unscheduled hl hs, seqStep_of_decode_error hr hd, rejectWord, he]

/-! ### A recorded refusal -/

/-- Every operation first makes the running check (R208). -/
theorem exec_eq_whenRunning (i : Instr) (s : State) : ∃ k, exec i s = whenRunning s k := by
  cases i <;> exact ⟨_, rfl⟩

theorem exec_of_refused {s : State} {r : Refusal} (h : s.refused = some r) (i : Instr) : exec i s = .refused r := by
  obtain ⟨k, hk⟩ := exec_eq_whenRunning i s
  rw [hk, whenRunning_refused h]

theorem seqStep_of_refused {s : State} {r : Refusal} (h : s.refused = some r) : seqStep s = .refused r :=
  whenRunning_refused h _

theorem unlessRefused_of_refused {s : State} {r : Refusal} (h : s.refused = some r) (t : State) :
    unlessRefused s t = .refused r := by
  rw [unlessRefused, h]

/-- No agent but RESET has a turn after a refusal (R207). -/
theorem agentStep_of_refused {s : State} {r : Refusal} (h : s.refused = some r) {turn : Turn} (hturn : turn ≠ .reset) :
    agentStep turn s = .refused r := by
  cases turn with
  | seq =>
    have hrefused : s.refused ≠ none := by simp [h]
    exact (seqTurn_eq_seqStep (.inl hrefused)).trans (seqStep_of_refused h)
  | rxArrive c fe ne => exact unlessRefused_of_refused h _
  | lineRx c fe ne => exact unlessRefused_of_refused h _
  | txTake => exact unlessRefused_of_refused h _
  | reset => exact absurd rfl hturn

theorem nextTurn_of_refused {s : State} {r : Refusal} (h : s.refused = some r)
    (hs : ∀ rest, s.sched ≠ .reset :: rest) : nextTurn s = .refused r := by
  unfold nextTurn
  split
  · exact seqStep_of_refused h
  · rename_i turn rest hsched
    exact agentStep_of_refused (s := s.setSched rest) h fun hturn => hs rest (hturn ▸ hsched)

theorem step_of_refused {s : State} {r : Refusal} (h : s.refused = some r)
    (hs : ∀ rest, s.sched ≠ .reset :: rest) : step s = .refused r := by
  cases hl : s.params.legal with
  | true => rw [step_of_legal hl, nextTurn_of_refused h hs]
  | false => exact step_refused_of_illegal hl hs h

/-- Settles O40: `settle` and `rejectWord` record the reason, and the checks of every turn find it from then on. -/
theorem refusalIsRecordedAndFinal : Obligations.RefusalIsRecordedAndFinal :=
  ⟨fun _ _ _ => step_records_exec_refusal, fun _ _ _ => step_records_decode_refusal,
    fun _ _ h => ⟨exec_of_refused h, step_of_refused h⟩⟩

end Sys2Proof.Machine
end

section
/-! The fourteen bus transactions (spec/40_bus_register_access.md R100 to R114): one rule for a read and three for a write
presented alone; each obligation then reads off its registers' address, gate, value and effect. -/

namespace Sys2Proof.Machine

/-! ### A transaction presented alone -/

section
variable {r : Reg} {v : Word} {s : State}

/-- A read with the gate open: the value, its side effect and the log entry (R52). -/
theorem readAlone_open (hr : Running s) (hopen : gateOpen r s = true) :
    readAlone r s = .next ((readEffect r s).logBus (.read (addrOf s.params r) (readValue r s))) := by
  rw [readAlone, whenRunning_eq hr, busRead_open hopen]

theorem readAlone_closed (hr : Running s) (hclosed : gateOpen r s = false) :
    readAlone r s = .next (clockFaulted s (some s.upc) (addrOf s.params r)) := by
  rw [readAlone, whenRunning_eq hr, busRead_closed hclosed, raiseClockNotReady_eq hr.2]

theorem writeAlone_open (hr : Running s) (hopen : gateOpen r s = true) (hlegal : writeRefusal r v s = none) :
    writeAlone r v s = .next (s.wrote r v) := by
  rw [writeAlone, whenRunning_eq hr, busWrite_open hopen hlegal, State.wrote]

theorem writeAlone_illegal {e : Refusal} (hr : Running s) (hopen : gateOpen r s = true)
    (hillegal : writeRefusal r v s = some e) : writeAlone r v s = .refused e := by
  rw [writeAlone, whenRunning_eq hr, busWrite_illegal hopen hillegal]

theorem writeAlone_closed (hr : Running s) (hclosed : gateOpen r s = false) :
    writeAlone r v s = .next (clockFaulted s (some s.upc) (addrOf s.params r)) := by
  rw [writeAlone, whenRunning_eq hr, busWrite_closed hclosed, raiseClockNotReady_eq hr.2]

end

/-! ### `RCU_CLKEN` -/

/-- Settles O9: the gate of `RCU_CLKEN` is always open, and the gates and PHY conditions are read from the stored word. -/
theorem clockEnableTransactions : Obligations.ClockEnableTransactions := by
  intro s v hr
  have hwrite : ∀ t : State, Running t → exec (.wrRcuClken v) t = .next (t.wrote .rcuClken v) := fun t ht =>
    writeAlone_open ht (gateOpen_rcuClken t) rfl
  refine ⟨readAlone_open hr (gateOpen_rcuClken s), s.wrote .rcuClken v, hwrite s hr, rfl,
    hwrite (s.wrote .rcuClken v) hr, fun r => ?_, rfl, rfl⟩
  cases r <;> rfl

/-! ### The GPIO control registers -/

/-- Settles O10: the value of a control register is the stored word, and reading it has no side effect. -/
theorem gpioReadTransactions : Obligations.GpioReadTransactions := by
  intro s hr
  cases hgate : paen s with
  | true =>
    exact ⟨readAlone_open (r := .gpioCtl0) hr hgate, readAlone_open (r := .gpioCtl1) hr hgate⟩
  | false =>
    exact ⟨readAlone_closed (r := .gpioCtl0) hr hgate, readAlone_closed (r := .gpioCtl1) hr hgate⟩

/-- The field of a pin is the four bits at four times its place (R95, R137). -/
theorem fieldOf_eq_shift (w : Word) (k : Nat) : fieldOf w k = (w >>> (4 * k)).setWidth 4 := by
  rw [fieldOf, BitVec.setWidth_ushiftRight_eq_extractLsb]

theorem pinCfg_low {pin : Nibble} (h : pin.toNat < 8) (s : State) :
    pinCfg s pin = (s.gpioCtl0 >>> (4 * pin.toNat)).setWidth 4 := by
  rw [pinCfg, if_pos h, fieldOf_eq_shift]

theorem pinCfg_high {pin : Nibble} (h : 8 ≤ pin.toNat) (s : State) :
    pinCfg s pin = (s.gpioCtl1 >>> (4 * (pin.toNat - 8))).setWidth 4 := by
  rw [pinCfg, if_neg (Nat.not_lt.mpr h), fieldOf_eq_shift]

/-- Settles O11: no word is refused, and `pin_cfg` is read from the written word. -/
theorem gpioWriteTransactions : Obligations.GpioWriteTransactions := by
  refine fun s v hr => ⟨fun hopen => ⟨?_, ?_⟩, fun hclosed => ⟨?_, ?_⟩⟩
  · exact ⟨s.wrote .gpioCtl0 v, writeAlone_open hr hopen rfl, rfl, fun pin hpin => pinCfg_low hpin _⟩
  · exact ⟨s.wrote .gpioCtl1 v, writeAlone_open hr hopen rfl, rfl, fun pin hpin => pinCfg_high hpin _⟩
  · exact writeAlone_closed (r := .gpioCtl0) hr hclosed
  · exact writeAlone_closed (r := .gpioCtl1) hr hclosed

/-! ### `USART_STAT` -/

/-- The bits of a status word: RBNE, TBE and the draw's (R107). -/
theorem readValue_usartStat_getLsbD (s : State) {i : Nat} (h : i < 32) :
    (readValue .usartStat s).getLsbD i =
      if i = 5 then s.rxFull else if i = 7 then !s.txFull else (Config.statDraw s.draws).getLsbD i :=
  statWord_getLsbD _ _ _ _ h

/-- Settles O12: the word is the status read's value; the count of draws is its only side effect. -/
theorem statusReadTransaction : Obligations.StatusReadTransaction := by
  refine fun s hr => ⟨fun hopen => ⟨readValue .usartStat s, ?_, ?_, ?_, fun i hi h5 h7 => ?_⟩, fun hclosed => ?_⟩
  · exact readAlone_open (r := .usartStat) hr hopen
  · exact readValue_usartStat_getLsbD s (by decide)
  · exact readValue_usartStat_getLsbD s (by decide)
  · rw [readValue_usartStat_getLsbD s hi, if_neg h5, if_neg h7]
  · exact readAlone_closed (r := .usartStat) hr hclosed

/-- Settles O13: the register's rule refuses every word once the gate is open. -/
theorem statusWriteIsRefused : Obligations.StatusWriteIsRefused := by
  intro s v hr
  cases hgate : usart0en s with
  | true => exact writeAlone_illegal (r := .usartStat) hr hgate rfl
  | false => exact writeAlone_closed (r := .usartStat) hr hgate

/-! ### `USART_DATA` -/

theorem readEffect_usartData_full {s : State} (h : s.rxFull = true) : readEffect .usartData s = s.drainRx :=
  if_pos h

theorem readEffect_usartData_empty {s : State} (h : s.rxFull = false) : readEffect .usartData s = s.drawn := by
  simp [readEffect, h]

theorem readValue_usartData_empty {s : State} (h : s.rxFull = false) :
    readValue .usartData s = (Config.dataDraw s.draws).setWidth 32 := by
  simp [readValue, h]

theorem writeRefusal_usartData_full {s : State} (h : s.txFull = true) (v : Word) :
    writeRefusal .usartData v s = some .transmitBufferFull :=
  if_pos h

theorem writeRefusal_usartData_empty {s : State} (h : s.txFull = false) (v : Word) :
    writeRefusal .usartData v s = none := by
  simp [writeRefusal, h]

/-- A read of `USART_DATA` with the gate open, by whether a character waits (R109). -/
theorem readAlone_usartData_open {s : State} (hr : Running s) (hopen : usart0en s = true) :
    readAlone .usartData s =
      if s.rxFull then
        .next (s.drainRx.logBus (.read (addrOf s.params .usartData) (s.rxBuf.setWidth 32)))
      else
        .next (s.drawn.logBus (.read (addrOf s.params .usartData) ((Config.dataDraw s.draws).setWidth 32))) := by
  rw [readAlone_open hr ((gateOpen_usartData s).trans hopen)]
  cases hfull : s.rxFull with
  | true => rw [readValue_usartData hfull, readEffect_usartData_full hfull, if_pos rfl]
  | false => rw [readValue_usartData_empty hfull, readEffect_usartData_empty hfull, if_neg nofun]

/-- A write of `USART_DATA` with the gate open, by whether a character is still pending (R110). -/
theorem writeAlone_usartData_open {s : State} (hr : Running s) (hopen : usart0en s = true) (v : Word) :
    writeAlone .usartData v s = if s.txFull then .refused .transmitBufferFull else .next (s.wrote .usartData v) := by
  cases hfull : s.txFull with
  | true => exact writeAlone_illegal hr hopen (writeRefusal_usartData_full hfull v)
  | false => exact writeAlone_open hr hopen (writeRefusal_usartData_empty hfull v)

/-- The buffer keeps bits 8:0 of the written word (R110). -/
theorem wrote_usartData (s : State) (v : Word) : s.wrote .usartData v =
    { s with
      txBuf := v.setWidth 9, txFull := true
      busLog := s.busLog ++ [.write (s.params.usartBase + 0x04#32) v] } := by
  rw [BitVec.setWidth_eq_extractLsb' (by decide)]
  rfl

/-- Settles O14: by the gate, and with it open by the buffer's flag. -/
theorem dataTransactions : Obligations.DataTransactions := by
  intro s v hr
  rw [← wrote_usartData]
  cases hgate : usart0en s with
  | true => exact ⟨readAlone_usartData_open hr hgate, writeAlone_usartData_open hr hgate v⟩
  | false => exact ⟨readAlone_closed (r := .usartData) hr hgate, writeAlone_closed (r := .usartData) hr hgate⟩

/-! ### `USART_BAUD` -/

theorem writeRefusal_usartBaud_legal {v : Word} (h : divisorLegal v = true) (s : State) :
    writeRefusal .usartBaud v s = none :=
  if_pos h

theorem writeRefusal_usartBaud_illegal {v : Word} (h : divisorLegal v = false) (s : State) :
    writeRefusal .usartBaud v s = some .divisorOutOfRange := by
  simp [writeRefusal, h]

/-- Settles O15: `divisorLegal` is the range 1 to `0xFFFF`. -/
theorem baudTransactions : Obligations.BaudTransactions := by
  refine fun s v hr => ⟨fun hopen => ⟨?_, fun hpos hmax => ?_, fun hout => ?_⟩, fun hclosed => ⟨?_, ?_⟩⟩
  · exact readAlone_open (r := .usartBaud) hr hopen
  · have hlegal : divisorLegal v = true := (divisorLegal_iff v).mpr ⟨hpos, hmax⟩
    exact writeAlone_open (r := .usartBaud) hr hopen (writeRefusal_usartBaud_legal hlegal s)
  · exact writeAlone_illegal (r := .usartBaud) hr hopen (writeRefusal_usartBaud_illegal (divisorLegal_false hout) s)
  · exact readAlone_closed (r := .usartBaud) hr hclosed
  · exact writeAlone_closed (r := .usartBaud) hr hclosed

/-! ### `USART_CTL0` -/

theorem writeRefusal_usartCtl0_legal {v : Word} (h : ctlLegal v = true) (s : State) :
    writeRefusal .usartCtl0 v s = none :=
  if_pos h

theorem writeRefusal_usartCtl0_illegal {v : Word} (h : ctlLegal v = false) (s : State) :
    writeRefusal .usartCtl0 v s = some .unknownControlBits := by
  simp [writeRefusal, h]

theorem and_controlMask (v : Word) : v &&& 0x200C#32 =
    (if v.getLsbD 2 then 0x0004#32 else 0#32) ||| (if v.getLsbD 3 then 0x0008#32 else 0#32) |||
      (if v.getLsbD 13 then 0x2000#32 else 0#32) := by
  have hmask : 0x200C#32 = BitVec.twoPow 32 2 ||| BitVec.twoPow 32 3 ||| BitVec.twoPow 32 13 := by decide
  rw [hmask, BitVec.and_or_distrib_left, BitVec.and_or_distrib_left, BitVec.and_twoPow, BitVec.and_twoPow,
    BitVec.and_twoPow]
  rfl

/-- A word with no 1 outside the three fields is what the mask of the fields keeps of it. -/
theorem and_controlMask_of_ctlLegal {v : Word} (h : ctlLegal v = true) : v &&& 0x200C#32 = v := by
  have hrest : v &&& 0xFFFFDFF3#32 = 0#32 := by simpa [ctlLegal] using h
  have hall : 0x200C#32 ||| 0xFFFFDFF3#32 = BitVec.allOnes 32 := by decide
  calc v &&& 0x200C#32 = v &&& 0x200C#32 ||| v &&& 0xFFFFDFF3#32 := by rw [hrest, BitVec.or_zero]
    _ = v &&& (0x200C#32 ||| 0xFFFFDFF3#32) := BitVec.and_or_distrib_left.symm
    _ = v &&& BitVec.allOnes 32 := by rw [hall]
    _ = v := BitVec.and_allOnes

/-- The legal control words are the eight choices of the three enable bits (R28, R114). -/
theorem ctlLegal_iff_mem (v : Word) : ctlLegal v = true ↔
    v ∈ [0x0000#32, 0x0004#32, 0x0008#32, 0x000C#32, 0x2000#32, 0x2004#32, 0x2008#32, 0x200C#32] := by
  constructor
  · intro h
    rw [← and_controlMask_of_ctlLegal h, and_controlMask]
    generalize v.getLsbD 2 = ren, v.getLsbD 3 = ten, v.getLsbD 13 = uen
    revert ren ten uen
    decide
  · intro h
    fin_cases h <;> rfl

/-- Settles O16: `ctlLegal` holds of the eight words alone, and `uen`, `ren`, `ten` are read from the written word. -/
theorem controlTransactions : Obligations.ControlTransactions := by
  refine fun s v hr => ⟨fun hopen => ⟨?_, fun hmem => ?_, fun hmem => ?_⟩, fun hclosed => ⟨?_, ?_⟩⟩
  · exact readAlone_open (r := .usartCtl0) hr hopen
  · have hlegal : ctlLegal v = true := (ctlLegal_iff_mem v).mpr hmem
    exact ⟨s.wrote .usartCtl0 v, writeAlone_open hr hopen (writeRefusal_usartCtl0_legal hlegal s), rfl, rfl, rfl, rfl⟩
  · have hillegal : ctlLegal v = false := Bool.eq_false_iff.mpr (mt (ctlLegal_iff_mem v).mp hmem)
    exact writeAlone_illegal (r := .usartCtl0) hr hopen (writeRefusal_usartCtl0_illegal hillegal s)
  · exact readAlone_closed (r := .usartCtl0) hr hclosed
  · exact writeAlone_closed (r := .usartCtl0) hr hclosed

end Sys2Proof.Machine
end

section
/-! `ClockController.enable` (spec/41_clock_enable.md R120 to R123): the operation always completes, so its state after is
a function of the state before, and what it does twice is read off that function. -/

namespace Sys2Proof.Machine

/-- The state after `enable` (R120, R121). -/
def State.enabled (s : State) (mask : Word) : State := (s.wrote .rcuClken mask).setPhase .idle

/-- `RCU_CLKEN` is never gated and takes every word, so `enable` cannot fail (R120). -/
theorem exec_enable_running {s : State} (hr : Running s) (mask : Word) :
    exec (.enable mask) s = .next (s.enabled mask) := by
  rw [exec_enable]
  exact opWrite_open hr (gateOpen_rcuClken s) rfl .idle

theorem running_enabled {s : State} (hr : Running s) (mask : Word) : Running (s.enabled mask) := hr

/-- The second write puts the word it finds, so only the log can tell it from the first (R123). -/
theorem enabled_enabled (s : State) (mask : Word) :
    { (s.enabled mask).enabled mask with busLog := (s.enabled mask).busLog } = s.enabled mask := rfl

/-- Settles O17: the write of the mask overwrites the register, and its log entry is the only one. -/
theorem enableOverwrites : Obligations.EnableOverwrites := fun _ mask hr => exec_enable_running hr mask

/-- Settles O18: the state after the first `enable` is running, so the second completes as well. -/
theorem enableTwiceIsEnableOnce : Obligations.EnableTwiceIsEnableOnce := fun s mask hr =>
  ⟨s.enabled mask, (s.enabled mask).enabled mask, exec_enable_running hr mask,
    exec_enable_running (running_enabled hr mask) mask, enabled_enabled s mask⟩

end Sys2Proof.Machine
end

section
/-! `PinConfigurator.configure` (spec/42_pin_configure.md R128 to R132): the output of a pin is a field of its
register's word, so one written word changes one pin's output; then the two transactions of the operation. -/

namespace Sys2Proof.Machine

/-! ### A pin's output after a write of its register -/

/-- The output of a pin is its field of the word of its register (R129, R137). -/
theorem pinCfg_eq_fieldOf (s : State) (pin : Nibble) : pinCfg s pin = fieldOf (gpioWord s pin) (pin.toNat % 8) := by
  unfold pinCfg gpioWord
  split
  · rw [Nat.mod_eq_of_lt ‹_›]
  · rw [show pin.toNat - 8 = pin.toNat % 8 by omega]

/-- An inserted field leaves the field at any other place of the word as it was (R132). -/
theorem fieldOf_insertField_other (old : Word) {pin other : Nibble} (config : Nibble)
    (h : other.toNat % 8 ≠ pin.toNat % 8) :
    fieldOf (insertField old pin config) (other.toNat % 8) = fieldOf old (other.toNat % 8) := by
  apply BitVec.eq_of_getLsbD_eq
  intro i hi
  have hplace : pinShift pin = 4 * (pin.toNat % 8) := Nat.mul_comm ..
  have hout : ¬ (pinShift pin ≤ 4 * (other.toNat % 8) + i ∧ 4 * (other.toNat % 8) + i < pinShift pin + 4) := by omega
  rw [fieldOf, fieldOf, BitVec.getLsbD_extractLsb', BitVec.getLsbD_extractLsb',
    insertField_getLsbD _ _ _ _ (by omega), if_neg hout]

/-- Two pins on the same side of 8 have one register, two on different sides have different ones (R129). -/
theorem gpioWord_withGpioWord (s : State) (pin other : Nibble) (v : Word) :
    gpioWord (withGpioWord s pin v) other =
      if (other.toNat < 8 ↔ pin.toNat < 8) then v else gpioWord s other := by
  by_cases hp : pin.toNat < 8 <;> by_cases ho : other.toNat < 8 <;> simp [gpioWord, withGpioWord, hp, ho]

/-- After the write back the pin's output is the configuration (R132). -/
theorem pinCfg_withGpioWord_self (s : State) (pin config : Nibble) (old : Word) :
    pinCfg (withGpioWord s pin (insertField old pin config)) pin = config := by
  rw [pinCfg_eq_fieldOf, gpioWord_withGpioWord, if_pos Iff.rfl, fieldOf_insertField]

/-- The write back of the word read keeps every other pin's output (R132). -/
theorem pinCfg_withGpioWord_other (s : State) {pin other : Nibble} (config : Nibble) (h : other ≠ pin) :
    pinCfg (withGpioWord s pin (insertField (gpioWord s pin) pin config)) other = pinCfg s other := by
  rw [pinCfg_eq_fieldOf, pinCfg_eq_fieldOf, gpioWord_withGpioWord]
  split
  · rename_i hside
    have hne : other.toNat ≠ pin.toNat := fun he => h (BitVec.eq_of_toNat_eq he)
    rw [fieldOf_insertField_other _ _ (by omega)]
    simp only [gpioWord, hside]
  · rfl

/-- A write of one register leaves the other as it was (R129, R132). -/
theorem withGpioWord_unselected (s : State) (pin : Nibble) (v : Word) :
    (pin.toNat < 8 → (withGpioWord s pin v).gpioCtl1 = s.gpioCtl1) ∧
      (8 ≤ pin.toNat → (withGpioWord s pin v).gpioCtl0 = s.gpioCtl0) := by
  unfold withGpioWord
  split
  · exact ⟨fun _ => rfl, fun hhigh => by omega⟩
  · exact ⟨fun hlow => by omega, fun _ => rfl⟩

/-! ### The two transactions -/

/-- The write of a pin's register (R53, R104, R106). -/
theorem wrote_gpioReg (s : State) (pin : Nibble) (v : Word) :
    s.wrote (gpioReg pin) v = (withGpioWord s pin v).logBus (.write (gpioAddr s.params pin) v) := by
  rw [State.wrote, writeEffect_gpioReg, addrOf_gpioReg]

/-- The state after the read of `configure` (R128, log 10). -/
def State.configureRead (s : State) (pin config : Nibble) : State :=
  (s.pinRead pin).setPhase (.configureWrite pin config)

/-- The state after the write back of `configure`, computed from the word in `tmp` (R131, log 11). -/
def State.configureWritten (s : State) (pin config : Nibble) : State :=
  ((withGpioWord s pin (insertField s.tmp pin config)).logBus
    (.write (gpioAddr s.params pin) (insertField s.tmp pin config))).setPhase .idle

theorem configureRead_eq (s : State) (pin config : Nibble) : s.configureRead pin config =
    { s with
      tmp := gpioWord s pin, phase := .configureWrite pin config
      busLog := s.busLog ++ [.read (gpioAddr s.params pin) (gpioWord s pin)] } := by
  rw [← addrOf_gpioReg]
  rfl

@[simp] theorem configureRead_tmp (s : State) (pin config : Nibble) :
    (s.configureRead pin config).tmp = gpioWord s pin := rfl

@[simp] theorem configureRead_params (s : State) (pin config : Nibble) :
    (s.configureRead pin config).params = s.params := rfl

theorem configureWritten_eq (s : State) (pin config : Nibble) : s.configureWritten pin config =
    { withGpioWord s pin (insertedWord s.tmp pin config) with
      phase := .idle
      busLog := s.busLog ++ [.write (gpioAddr s.params pin) (insertedWord s.tmp pin config)] } := by
  rw [State.configureWritten, ← writeEffect_gpioReg, State.logBus, writeEffect_busLog, writeEffect_gpioReg]
  rfl

theorem exec_configure_second {pin config : Nibble} {s : State} (hr : Running s) (hopen : paen s = true)
    (hph : s.phase = .configureWrite pin config) :
    exec (.configure pin config) s = .next (s.configureWritten pin config) := by
  rw [exec_configure_write hph,
    opWrite_open hr ((gateOpen_gpioReg pin s).trans hopen) (writeRefusal_gpioReg ..), wrote_gpioReg]
  rfl

/-- From any other phase `configure` completes in two steps (R128). -/
theorem exec_configure_twice {pin config : Nibble} {s : State} (hr : Running s) (hopen : paen s = true)
    (hph : s.phase ≠ .configureWrite pin config) :
    exec (.configure pin config) s = .next (s.configureRead pin config) ∧
      exec (.configure pin config) (s.configureRead pin config) =
        .next ((s.configureRead pin config).configureWritten pin config) :=
  ⟨exec_configure_read hr hopen hph, exec_configure_second (s := s.configureRead pin config) hr hopen rfl⟩

/-- Either transaction finds the gate of the pin's register closed (R58, R197). -/
theorem exec_configure_closed {pin config : Nibble} {s : State} (hr : Running s) (hclosed : paen s = false) :
    exec (.configure pin config) s = .next (clockFaulted s none (gpioAddr s.params pin)) := by
  have hgate : gateOpen (gpioReg pin) s = false := (gateOpen_gpioReg pin s).trans hclosed
  show execConfigure pin config s = _
  rw [execConfigure, whenRunning_eq hr, ← addrOf_gpioReg, ← raiseClockNotReady_eq hr.2]
  split
  · exact busWrite_closed hgate ..
  · exact busRead_closed hgate ..

/-- Settles O19: each transaction once, by the phase and the gate. -/
theorem configureReadsThenWritesBack : Obligations.ConfigureReadsThenWritesBack := by
  intro s pin config hr
  refine ⟨fun hopen hph => ?_, fun hopen hph => ?_, exec_configure_closed hr⟩
  · obtain ⟨hread, hwrite⟩ := exec_configure_twice hr hopen hph
    refine ⟨s.configureRead pin config, hread, configureRead_eq s pin config, ?_⟩
    rw [hwrite, configureWritten_eq, configureRead_tmp, configureRead_params]
  · rw [exec_configure_second hr hopen hph, configureWritten_eq]

/-- The output of a pin after both transactions: a word of the control registers is all it reads (R137). -/
theorem pinCfg_configureWritten (s : State) (pin config other : Nibble) :
    pinCfg ((s.configureRead pin config).configureWritten pin config) other =
      pinCfg (withGpioWord s pin (insertField (gpioWord s pin) pin config)) other := by
  rw [pinCfg_eq_fieldOf, pinCfg_eq_fieldOf, gpioWord_withGpioWord, State.configureWritten, configureRead_tmp]
  exact congrArg (fieldOf · _) (gpioWord_withGpioWord (s.configureRead pin config) pin other _)

/-- Settles O20: the word written back is the word read with the pin's field replaced. -/
theorem configurePreservesOtherPins : Obligations.ConfigurePreservesOtherPins := by
  intro s pin config hr hopen hph
  obtain ⟨hread, hwrite⟩ := exec_configure_twice hr hopen hph
  refine ⟨_, _, hread, hwrite, ?_, fun other hne => ?_, ?_⟩
  · rw [pinCfg_configureWritten, pinCfg_withGpioWord_self]
  · rw [pinCfg_configureWritten, pinCfg_withGpioWord_other s config hne]
  · exact withGpioWord_unselected (s.configureRead pin config) pin _

end Sys2Proof.Machine
end

section
/-! The line at the two pins (spec/42_pin_configure.md R139, R140; spec/44_serial_channel.md R168): a connected line
passes each character as it is. -/

namespace Sys2Proof.Machine

/-! ### A PHY turn of the schedule -/

theorem step_of_txTake {s : State} {rest : List Turn} (hl : s.params.legal = true) (hr : s.refused = none)
    (h : s.sched = .txTake :: rest) : step s = .next (phyTx (s.setSched rest)) := by
  rw [step_of_legal hl, nextTurn, h]
  show unlessRefused (s.setSched rest) _ = _
  rw [unlessRefused, setSched_refused, hr]

/-- An enabled `PHY_TX` takes a pending character (R168, R169). -/
theorem phyTx_pending {s : State} (hen : txEnabled s = true) (hfull : s.txFull = true) : phyTx s = txTake s := by
  simp [phyTx, hen, hfull]

/-- Two turns whose steps are the same from every state are the same step, whether the parameters are legal or not. -/
theorem step_sched_congr {s : State} {u v : Turn} (rest : List Turn) (hu : u ≠ .reset) (hv : v ≠ .reset)
    (h : agentStep u (s.setSched rest) = agentStep v (s.setSched rest)) :
    step (s.setSched (u :: rest)) = step (s.setSched (v :: rest)) := by
  cases hl : s.params.legal with
  | true => rwa [step_of_legal (s := s.setSched (u :: rest)) hl, step_of_legal (s := s.setSched (v :: rest)) hl]
  | false =>
    rw [step_of_illegal (s := s.setSched (u :: rest)) hl, step_of_illegal (s := s.setSched (v :: rest)) hl,
      refusedTurn_eq (by simp [hu]), refusedTurn_eq (by simp [hv])]
    rfl

/-! ### The connected line -/

/-- R139's three conditions. -/
theorem txConnected_iff (s : State) : txConnected s = true ↔
    pinCfg s s.params.txPin = Config.txConfig ∧ afen s = true ∧ paen s = true := by
  simp [txConnected, and_assoc]

/-- R140's three conditions. -/
theorem rxConnected_iff (s : State) : rxConnected s = true ↔
    pinCfg s s.params.rxPin = Config.rxConfig ∧ afen s = true ∧ paen s = true := by
  simp [rxConnected, and_assoc]

/-- On the connected line the character sent is the one offered (R140). -/
theorem lineRx_connected {s : State} (h : rxConnected s = true) (c : Byte) (ferr nerr : Bool) :
    lineRx c ferr nerr s = phyRx c ferr nerr s := if_pos h

/-- The character appears on the line or does not (R139, log 15). -/
theorem txTake_lineLog_cases (s : State) : (txTake s).lineLog = s.lineLog ∨
    (txTake s).lineLog = s.lineLog ++ [.taken (s.txBuf.extractLsb' 0 8)] := by
  unfold txTake driveLine
  split
  · exact .inr rfl
  · split
    · exact .inr rfl
    · exact .inl rfl

/-- `tx_take` moves the character and frees the buffer; beside that only the line history and the count of draws can
change (R168). -/
theorem txTake_eq (s : State) : txTake s =
    { s with
      txFull := false, txLog := s.txLog ++ [.taken (s.txBuf.extractLsb' 0 8)]
      lineLog := (txTake s).lineLog, draws := (txTake s).draws } := by
  unfold txTake driveLine
  split
  · rfl
  · split <;> rfl

/-- Settles O34: the turn is `tx_take`, and the line history is the connection's or the free value's. -/
theorem pendingCharacterIsTaken : Obligations.PendingCharacterIsTaken := by
  intro s rest hl hr hsched hen hfull
  rw [BitVec.setWidth_eq_extractLsb' (by decide)]
  refine ⟨txTake (s.setSched rest), ?_, txTake_eq (s.setSched rest), txTake_lineLog_cases (s.setSched rest),
    fun hpin hafen hpaen => ?_⟩
  · rw [step_of_txTake hl hr hsched, phyTx_pending (s := s.setSched rest) hen hfull]
  · exact txTake_lineLog (s := s.setSched rest) ((txConnected_iff s).mpr ⟨hpin, hafen, hpaen⟩)

/-- Settles O36: the two turns do the same, and neither is RESET. -/
theorem connectedLineIsReceived : Obligations.ConnectedLineIsReceived := by
  intro s c ferr nerr rest hpin hafen hpaen
  have hconn : rxConnected (s.setSched rest) = true := (rxConnected_iff s).mpr ⟨hpin, hafen, hpaen⟩
  refine step_sched_congr rest nofun nofun ?_
  show unlessRefused _ (lineRx c ferr nerr _) = unlessRefused _ (phyRx c ferr nerr _)
  rw [lineRx_connected hconn]

end Sys2Proof.Machine
end

section
/-! The harness invariant (spec/42_pin_configure.md R139; spec/44_serial_channel.md R171; spec/45_main_sequencer.md
R177, R192, R193). It falls into four parts that read different fields: the sequencer, the configuration registers, the
serial channel and the trace. The eleven micro-operations and the PHY turns each touch few of them; each part has its
own step rules, and a step of the harness puts them together. -/

namespace Sys2Proof.Machine

/-! ### The four parts -/

/-- The part of `HarnessInv` on the sequencer: it runs its micro-program under legal parameters (R176, R208). -/
structure SequencerInv (s : State) : Prop where
  legal : s.params.legal = true
  running : Running s
  alone : s.port = []
  upcLegal : s.upc.toNat ≤ 10

/-- The part of `HarnessInv` on the configuration registers (R177 to R184). -/
structure ConfigInv (s : State) : Prop where
  clocks : s.rcuClken = if s.upc = 0#4 then 0#32 else Config.clkMask
  divisor : 6 ≤ s.upc.toNat → s.usartBaud = divisorWord s.params
  control : s.usartCtl0 = if s.upc.toNat ≤ 6 then 0#32 else Config.usartEnWord
  txPinRead : s.upc = 2#4 → s.tmp = gpioWord s s.params.txPin
  rxPinRead : s.upc = 4#4 → s.tmp = gpioWord s s.params.rxPin
  txPin : 3 ≤ s.upc.toNat → pinCfg s s.params.txPin = Config.txConfig
  rxPin : 5 ≤ s.upc.toNat → pinCfg s s.params.rxPin = Config.rxConfig

/-- The part of `HarnessInv` on the serial channel: the buffers, `ch` and the histories of characters (R171, R192). -/
structure ChannelInv (s : State) : Prop where
  quiet : s.upc.toNat ≤ 6 → s.rxFull = false ∧ s.txFull = false
  received : s.upc = 8#4 → s.rxFull = true
  sendable : s.upc = 10#4 → s.txFull = false
  rxByte : s.rxFull = true → s.rxBuf = (s.rxBuf.extractLsb' 0 8).setWidth 9
  chByte : s.upc = 9#4 ∨ s.upc = 10#4 → s.ch = (s.ch.extractLsb' 0 8).setWidth 32
  echo : acceptedChars s.rxHist = sentChars s.txLog ++ inFlight s
  line : s.lineLog = s.txLog

section
variable {s : State}

theorem HarnessInv.sequencerInv (h : HarnessInv s) : SequencerInv s := { h with }

theorem HarnessInv.configInv (h : HarnessInv s) : ConfigInv s := { h with }

theorem HarnessInv.channelInv (h : HarnessInv s) : ChannelInv s := { h with }

/-- The four parts are the whole invariant. -/
theorem HarnessInv.of_parts (hseq : SequencerInv s) (hconfig : ConfigInv s) (hchannel : ChannelInv s)
    (htrace : TraceInv s) : HarnessInv s :=
  { hseq, hconfig, hchannel with trace := htrace }

end

/-! ### The sequencer -/

@[simp] theorem wrote_params (s : State) (r : Reg) (v : Word) : (s.wrote r v).params = s.params :=
  writeEffect_params ..

section
variable {s : State}

theorem SequencerInv.setUpc (h : SequencerInv s) {n : Nibble} (hn : n.toNat ≤ 10) : SequencerInv (s.setUpc n) :=
  { h with upcLegal := hn }

theorem SequencerInv.wrote (h : SequencerInv s) (r : Reg) (v : Word) : SequencerInv (s.wrote r v) where
  legal := (congrArg Params.legal (writeEffect_params ..)).trans h.legal
  running := ⟨(writeEffect_refused ..).trans h.running.1, (writeEffect_fault ..).trans h.running.2⟩
  alone := (writeEffect_port ..).trans h.alone
  upcLegal := (congrArg BitVec.toNat (writeEffect_upc ..)).trans_le h.upcLegal

/-- A micro-operation that answers a next state leads there: nothing stands at the port to be taken off (R176). -/
theorem SequencerInv.seqStep (h : SequencerInv s) {n : Nibble} {i : Instr} {t : State} (hupc : s.upc = n)
    (hd : decodeUop n = .ok i) (he : exec i s = .next t) : seqStep s = .next t := by
  subst hupc
  have hfetch := fetch_of_alone h.alone
  rw [seqStep_of_decode h.running (i := i) (by rw [hfetch]; exact hd), hfetch, he, settle, retire_uop]

end

/-! ### The configuration registers

After each micro-operation of start-up the fields named in its proof are those that speak of the new `upc`; the others
are void there. -/

theorem ConfigInv.clocked {s : State} (h : ConfigInv s) (hupc : s.upc ≠ 0#4) : s.rcuClken = Config.clkMask := by
  rw [h.clocks, if_neg hupc]

theorem ConfigInv.disabled {s : State} (h : ConfigInv s) (hupc : s.upc.toNat ≤ 6) : s.usartCtl0 = 0#32 := by
  rw [h.control, if_pos hupc]

section
variable {s : State}

/-- After `CLK_EN` (R178). -/
theorem ConfigInv.clkEn (h : ConfigInv s) (hupc : s.upc = 0#4) :
    ConfigInv ((s.wrote .rcuClken Config.clkMask).setUpc 1#4) := by
  constructor
  case clocks => rfl
  case control => exact h.disabled (by simp [hupc])
  all_goals simp

/-- After `TXP_RD` (R179). -/
theorem ConfigInv.txpRd (h : ConfigInv s) (hupc : s.upc = 1#4) :
    ConfigInv ((s.pinRead s.params.txPin).setUpc 2#4) := by
  constructor
  case clocks => exact h.clocked (by simp [hupc])
  case control => exact h.disabled (by simp [hupc])
  case txPinRead => exact fun _ => rfl
  all_goals simp

/-- A write of a pin's register keeps the other configuration registers. -/
theorem wrote_gpioReg_config (s : State) (pin : Nibble) (v : Word) :
    (s.wrote (gpioReg pin) v).rcuClken = s.rcuClken ∧ (s.wrote (gpioReg pin) v).usartCtl0 = s.usartCtl0 := by
  unfold gpioReg
  split <;> exact ⟨rfl, rfl⟩

theorem gpioReg_ne_usartData (pin : Nibble) : gpioReg pin ≠ .usartData := by
  unfold gpioReg
  split <;> nofun

/-- The outputs after the write of a pin's register; `upc` is no part of them. -/
theorem pinCfg_wrote_setUpc (s : State) (pin other : Nibble) (v : Word) (n : Nibble) :
    pinCfg ((s.wrote (gpioReg pin) v).setUpc n) other = pinCfg (withGpioWord s pin v) other := by
  rw [wrote_gpioReg]
  rfl

/-- After `TXP_WR` (R180). -/
theorem ConfigInv.txpWr (h : ConfigInv s) (hupc : s.upc = 2#4) : ConfigInv
    ((s.wrote (gpioReg s.params.txPin) (insertField s.tmp s.params.txPin Config.txConfig)).setUpc 3#4) := by
  obtain ⟨hclk, hctl⟩ := wrote_gpioReg_config s s.params.txPin (insertField s.tmp s.params.txPin Config.txConfig)
  constructor
  case clocks => exact hclk.trans (h.clocked (by simp [hupc]))
  case control => exact hctl.trans (h.disabled (by simp [hupc]))
  case txPin =>
    intro _
    rw [pinCfg_wrote_setUpc, setUpc_params, wrote_params, pinCfg_withGpioWord_self]
  all_goals simp

/-- After `RXP_RD` (R181). -/
theorem ConfigInv.rxpRd (h : ConfigInv s) (hupc : s.upc = 3#4) :
    ConfigInv ((s.pinRead s.params.rxPin).setUpc 4#4) := by
  constructor
  case clocks => exact h.clocked (by simp [hupc])
  case control => exact h.disabled (by simp [hupc])
  case rxPinRead => exact fun _ => rfl
  case txPin => exact fun _ => h.txPin (by simp [hupc])
  all_goals simp

/-- After `RXP_WR` (R182): the word written back is the one read, so the transmit pin keeps its configuration (R132). -/
theorem ConfigInv.rxpWr (h : ConfigInv s) (hupc : s.upc = 4#4) (hpins : s.params.txPin ≠ s.params.rxPin) : ConfigInv
    ((s.wrote (gpioReg s.params.rxPin) (insertField s.tmp s.params.rxPin Config.rxConfig)).setUpc 5#4) := by
  obtain ⟨hclk, hctl⟩ := wrote_gpioReg_config s s.params.rxPin (insertField s.tmp s.params.rxPin Config.rxConfig)
  constructor
  case clocks => exact hclk.trans (h.clocked (by simp [hupc]))
  case control => exact hctl.trans (h.disabled (by simp [hupc]))
  case txPin =>
    intro _
    rw [pinCfg_wrote_setUpc, setUpc_params, wrote_params, h.rxPinRead hupc, pinCfg_withGpioWord_other _ _ hpins]
    exact h.txPin (by simp [hupc])
  case rxPin =>
    intro _
    rw [pinCfg_wrote_setUpc, setUpc_params, wrote_params, pinCfg_withGpioWord_self]
  all_goals simp

/-- After `BAUD_WR` (R183). -/
theorem ConfigInv.baudWr (h : ConfigInv s) (hupc : s.upc = 5#4) :
    ConfigInv ((s.wrote .usartBaud (divisorWord s.params)).setUpc 6#4) := by
  constructor
  case clocks => exact h.clocked (by simp [hupc])
  case divisor => exact fun _ => rfl
  case control => exact h.disabled (by simp [hupc])
  case txPin => exact fun _ => h.txPin (by simp [hupc])
  case rxPin => exact fun _ => h.rxPin (by simp [hupc])
  all_goals simp

/-- After `CTL_WR` (R184). -/
theorem ConfigInv.ctlWr (h : ConfigInv s) (hupc : s.upc = 6#4) :
    ConfigInv ((s.wrote .usartCtl0 Config.usartEnWord).setUpc 7#4) := by
  constructor
  case clocks => exact h.clocked (by simp [hupc])
  case divisor => exact fun _ => h.divisor (by simp [hupc])
  case control => rfl
  case txPin => exact fun _ => h.txPin (by simp [hupc])
  case rxPin => exact fun _ => h.rxPin (by simp [hupc])
  all_goals simp

end

/-- The configuration of the echo loop: every register as start-up has left it (R177). -/
structure Configured (s : State) : Prop where
  clocks : s.rcuClken = Config.clkMask
  divisor : s.usartBaud = divisorWord s.params
  control : s.usartCtl0 = Config.usartEnWord
  txPin : pinCfg s s.params.txPin = Config.txConfig
  rxPin : pinCfg s s.params.rxPin = Config.rxConfig

theorem ne_of_loop {n k : Nibble} (hn : 7 ≤ n.toNat) (hk : k.toNat < 7) : n ≠ k :=
  ne_of_apply_ne BitVec.toNat (by omega)

theorem ConfigInv.configured {s : State} (h : ConfigInv s) (hupc : 7 ≤ s.upc.toNat) : Configured s where
  clocks := h.clocked (ne_of_loop hupc (by decide))
  divisor := h.divisor (by omega)
  control := by rw [h.control, if_neg (by omega)]
  txPin := h.txPin (by omega)
  rxPin := h.rxPin (by omega)

theorem Configured.configInv {s : State} (h : Configured s) (hupc : 7 ≤ s.upc.toNat) : ConfigInv s where
  clocks := by rw [h.clocks, if_neg (ne_of_loop hupc (by decide))]
  divisor _ := h.divisor
  control := by rw [h.control, if_neg (by omega)]
  txPinRead h2 := absurd h2 (ne_of_loop hupc (by decide))
  rxPinRead h4 := absurd h4 (ne_of_loop hupc (by decide))
  txPin _ := h.txPin
  rxPin _ := h.rxPin

/-! ### The trace -/

/-- While start-up is under way nothing but its transactions has been performed (R193). -/
theorem TraceInv.startup {s : State} (h : TraceInv s) (hupc : s.upc.toNat < 7) : ∃ a b : Word,
    transactions s.busLog = (startupTrace s.params a b).take s.upc.toNat ∧
      (s.upc = 2#4 → s.tmp = a) ∧ (s.upc = 4#4 → s.tmp = b) := by
  obtain ⟨a, b, htake, -, htx, hrx⟩ := h
  exact ⟨a, b, transactions_of_take hupc htake, htx, hrx⟩

/-- The next transaction of start-up is the next entry of the seven (R193). -/
theorem TraceInv.of_startupEntry {s t : State} {a b : Word} {e : BusEvent} (hparams : t.params = s.params)
    (hs : s.upc.toNat < 7) (hupc : t.upc.toNat = s.upc.toNat + 1)
    (hbefore : transactions s.busLog = (startupTrace s.params a b).take s.upc.toNat)
    (hlog : transactions t.busLog = transactions s.busLog ++ [e])
    (hentry : (startupTrace s.params a b)[s.upc.toNat]? = some e)
    (htx : t.upc = 2#4 → t.tmp = a) (hrx : t.upc = 4#4 → t.tmp = b) : TraceInv t := by
  have hnow : transactions t.busLog = (startupTrace t.params a b).take t.upc.toNat := by
    rw [hlog, hbefore, hparams, hupc, List.take_add_one, hentry]
    rfl
  have hlen : (transactions t.busLog).length ≤ 7 := by
    rw [hnow, List.length_take, startupTrace_length]
    omega
  refine ⟨a, b, (List.take_of_length_le hlen).trans hnow, fun e he => ?_, htx, hrx⟩
  rw [List.drop_of_length_le hlen] at he
  cases he

/-- A transaction of the echo loop comes after the seven (R193). -/
theorem TraceInv.of_echoTransaction {s t : State} {e : BusEvent} (h : TraceInv s) (hparams : t.params = s.params)
    (hs : 7 ≤ s.upc.toNat) (ht : 7 ≤ t.upc.toNat) (hlog : transactions t.busLog = transactions s.busLog ++ [e])
    (he : echoTransaction s.params e) : TraceInv t := by
  obtain ⟨a, b, htake, hdrop, -, -⟩ := h
  obtain ⟨htake', hdrop'⟩ := take_drop_echo hs e htake
  refine ⟨a, b, ?_, fun e' he' => ?_, fun h2 => ?_, fun h4 => ?_⟩
  · rw [hlog, hparams, htake', List.take_of_length_le hs, List.take_of_length_le ht]
  · rw [hlog, hdrop', List.mem_append, List.mem_singleton] at he'
    rw [hparams]
    rcases he' with hmem | rfl
    · exact hdrop e' hmem
    · exact he
  · simp [h2] at ht
  · simp [h4] at ht

end Sys2Proof.Machine
end

section
/-! The serial channel's part of the harness invariant (spec/44_serial_channel.md R168, R171; spec/45_main_sequencer.md
R185 to R188, R192): what moves no character, what each data access moves, and the PHY turns. -/

namespace Sys2Proof.Machine

/-! ### Steps that move no character -/

/-- The buffers, `ch` and the histories of characters are the same in both states. -/
structure ChannelKept (s t : State) : Prop where
  rxFull : t.rxFull = s.rxFull
  rxBuf : t.rxBuf = s.rxBuf
  txFull : t.txFull = s.txFull
  txBuf : t.txBuf = s.txBuf
  ch : t.ch = s.ch
  rxHist : t.rxHist = s.rxHist
  txLog : t.txLog = s.txLog
  lineLog : t.lineLog = s.lineLog

/-- A step that moves no character: `ch` stays held or unheld, and `upc` goes on as the flags allow. -/
theorem ChannelInv.of_kept {s t : State} (h : ChannelInv s) (kept : ChannelKept s t)
    (held : t.upc = 9#4 ∨ t.upc = 10#4 ↔ s.upc = 9#4 ∨ s.upc = 10#4) (quiet : t.upc.toNat ≤ 6 → s.upc.toNat ≤ 6)
    (received : t.upc = 8#4 → s.rxFull = true) (sendable : t.upc = 10#4 → s.txFull = false) : ChannelInv t where
  quiet ht := by rw [kept.rxFull, kept.txFull]; exact h.quiet (quiet ht)
  received ht := kept.rxFull.trans (received ht)
  sendable ht := kept.txFull.trans (sendable ht)
  rxByte := by rw [kept.rxFull, kept.rxBuf]; exact h.rxByte
  chByte := by rw [held, kept.ch]; exact h.chByte
  echo := by
    rw [kept.rxHist, kept.txLog, h.echo]
    simp only [inFlight, kept.rxFull, kept.rxBuf, kept.txFull, kept.txBuf, kept.ch, held]
  line := by rw [kept.lineLog, kept.txLog, h.line]

/-- A write of another register than `USART_DATA` moves no character (R110). -/
theorem channelKept_wrote {s : State} {r : Reg} (hr : r ≠ .usartData) (v : Word) (n : Nibble) :
    ChannelKept s ((s.wrote r v).setUpc n) := by
  cases r with
  | usartData => exact absurd rfl hr
  | _ => exact ⟨rfl, rfl, rfl, rfl, rfl, rfl, rfl, rfl⟩

/-- During start-up and at its end `ch` holds no character and no flag has been seen. -/
theorem ne_of_startup {n k : Nibble} (hn : n.toNat ≤ 7) (hk : 7 < k.toNat) : n ≠ k :=
  ne_of_apply_ne BitVec.toNat (by omega)

/-- The steps of start-up move no character (R171). -/
theorem ChannelInv.startup {s t : State} (h : ChannelInv s) (kept : ChannelKept s t) (hs : s.upc.toNat ≤ 6)
    (ht : t.upc.toNat ≤ 7) : ChannelInv t := by
  have unheld {n : Nibble} (hn : n.toNat ≤ 7) : ¬ (n = 9#4 ∨ n = 10#4) :=
    not_or.mpr ⟨ne_of_startup hn (by decide), ne_of_startup hn (by decide)⟩
  exact h.of_kept kept (iff_of_false (unheld ht) (unheld (by omega))) (fun _ => hs)
    (fun h8 => absurd h8 (ne_of_startup ht (by decide))) (fun h10 => absurd h10 (ne_of_startup ht (by decide)))

/-! ### Steps of the echo loop -/

section
variable {s : State}

/-- The state after a `USART_DATA` read that finds a character, kept in `ch` (R109, R156). -/
def State.dataRead (s : State) : State :=
  (s.drainRx.logBus (.read (addrOf s.params .usartData) (s.rxBuf.setWidth 32))).setCh (s.rxBuf.setWidth 32)

@[simp] theorem dataRead_rxFull : s.dataRead.rxFull = false := rfl
@[simp] theorem dataRead_rxBuf : s.dataRead.rxBuf = s.rxBuf := rfl
@[simp] theorem dataRead_txFull : s.dataRead.txFull = s.txFull := rfl
@[simp] theorem dataRead_txBuf : s.dataRead.txBuf = s.txBuf := rfl
@[simp] theorem dataRead_ch : s.dataRead.ch = s.rxBuf.setWidth 32 := rfl

/-- A poll moves no character. -/
theorem channelKept_polled (n : Nibble) : ChannelKept s ((s.polled s.phase).setUpc n) :=
  ⟨rfl, rfl, rfl, rfl, rfl, rfl, rfl, rfl⟩

/-- After `RX_POLL`: `RX_READ` comes next where a character waits (R185). -/
theorem ChannelInv.rxPoll (h : ChannelInv s) (hupc : s.upc = 7#4) :
    ChannelInv ((s.polled s.phase).setUpc (if s.rxFull then 8#4 else 7#4)) := by
  refine h.of_kept (channelKept_polled _) ?held ?quiet ?received ?sendable
  case received => cases s.rxFull <;> simp
  all_goals cases s.rxFull <;> simp [hupc]

/-- After `TX_POLL`: `TX_WRITE` comes next where nothing is pending (R187). -/
theorem ChannelInv.txPoll (h : ChannelInv s) (hupc : s.upc = 9#4) :
    ChannelInv ((s.polled s.phase).setUpc (if !s.txFull then 10#4 else 9#4)) := by
  refine h.of_kept (channelKept_polled _) ?held ?quiet ?received ?sendable
  case sendable => cases s.txFull <;> simp
  all_goals cases s.txFull <;> simp [hupc]

/-- The low byte of a word that was widened, or cut to no less than a byte, is the low byte of what it was. -/
theorem lowByte_setWidth {m : Nat} (v : BitVec m) (n : Nat) (hn : 8 ≤ n) (hm : 8 ≤ m) :
    (v.setWidth n).extractLsb' 0 8 = v.extractLsb' 0 8 := by
  rw [← BitVec.setWidth_eq_extractLsb' hn, ← BitVec.setWidth_eq_extractLsb' hm, BitVec.setWidth_setWidth_of_le _ hn]

/-- After `RX_READ` the character is in `ch` and no longer in `rx_buf` (R186). -/
theorem ChannelInv.rxRead (h : ChannelInv s) (hupc : s.upc = 8#4) : ChannelInv (s.dataRead.setUpc 9#4) := by
  have hfull := h.received hupc
  have hbyte : (s.rxBuf.setWidth 32).extractLsb' 0 8 = s.rxBuf.extractLsb' 0 8 :=
    lowByte_setWidth _ _ (by decide) (by decide)
  constructor
  case chByte =>
    intro _
    calc s.rxBuf.setWidth 32 = ((s.rxBuf.extractLsb' 0 8).setWidth 9).setWidth 32 :=
          congrArg (·.setWidth 32) (h.rxByte hfull)
      _ = (s.rxBuf.extractLsb' 0 8).setWidth 32 := BitVec.setWidth_setWidth (by decide)
      _ = ((s.rxBuf.setWidth 32).extractLsb' 0 8).setWidth 32 := by rw [hbyte]
  case echo =>
    show acceptedChars s.rxHist = sentChars s.txLog ++ _
    rw [h.echo]
    cases htx : s.txFull <;> simp [inFlight, hupc, hfull, hbyte, htx]
  case line => exact h.line
  all_goals simp

/-- After `TX_WRITE` the character is in `tx_buf` and no longer in `ch` (R188). -/
theorem ChannelInv.txWrite (h : ChannelInv s) (hupc : s.upc = 10#4) :
    ChannelInv ((s.wrote .usartData s.ch).setUpc 7#4) := by
  have hempty := h.sendable hupc
  rw [wrote_usartData]
  have hbyte : (s.ch.setWidth 9).extractLsb' 0 8 = s.ch.extractLsb' 0 8 :=
    lowByte_setWidth _ _ (by decide) (by decide)
  constructor
  case rxByte => exact h.rxByte
  case echo =>
    show acceptedChars s.rxHist = sentChars s.txLog ++ _
    rw [h.echo]
    simp [inFlight, hupc, hempty, hbyte]
  case line => exact h.line
  all_goals simp

end

/-! ### A PHY turn -/

/-- What a PHY turn keeps: all that the sequencer's, the configuration's and the trace's part of the invariant read. -/
structure PhyFrame (s t : State) : Prop where
  params : t.params = s.params
  refused : t.refused = s.refused
  fault : t.fault = s.fault
  port : t.port = s.port
  upc : t.upc = s.upc
  tmp : t.tmp = s.tmp
  rcuClken : t.rcuClken = s.rcuClken
  gpioCtl0 : t.gpioCtl0 = s.gpioCtl0
  gpioCtl1 : t.gpioCtl1 = s.gpioCtl1
  usartBaud : t.usartBaud = s.usartBaud
  usartCtl0 : t.usartCtl0 = s.usartCtl0
  busLog : t.busLog = s.busLog

section
variable {s t : State}

theorem SequencerInv.of_phyFrame (h : SequencerInv s) (f : PhyFrame s t) : SequencerInv t where
  legal := f.params ▸ h.legal
  running := ⟨f.refused.trans h.running.1, f.fault.trans h.running.2⟩
  alone := f.port.trans h.alone
  upcLegal := f.upc ▸ h.upcLegal

theorem PhyFrame.gpioWord_eq (f : PhyFrame s t) (pin : Nibble) : gpioWord t pin = gpioWord s pin := by
  rw [gpioWord, f.gpioCtl0, f.gpioCtl1, gpioWord]

theorem PhyFrame.pinCfg_eq (f : PhyFrame s t) (pin : Nibble) : pinCfg t pin = pinCfg s pin := by
  rw [pinCfg_eq_fieldOf, f.gpioWord_eq, pinCfg_eq_fieldOf]

theorem ConfigInv.of_phyFrame (h : ConfigInv s) (f : PhyFrame s t) : ConfigInv t where
  clocks := by rw [f.rcuClken, f.upc]; exact h.clocks
  divisor := by rw [f.upc, f.usartBaud, f.params]; exact h.divisor
  control := by rw [f.usartCtl0, f.upc]; exact h.control
  txPinRead := by rw [f.upc, f.tmp, f.params, f.gpioWord_eq]; exact h.txPinRead
  rxPinRead := by rw [f.upc, f.tmp, f.params, f.gpioWord_eq]; exact h.rxPinRead
  txPin := by rw [f.upc, f.params, f.pinCfg_eq]; exact h.txPin
  rxPin := by rw [f.upc, f.params, f.pinCfg_eq]; exact h.rxPin

theorem TraceInv.of_phyFrame (h : TraceInv s) (f : PhyFrame s t) : TraceInv t := by
  rw [TraceInv, f.busLog, f.params, f.upc, f.tmp]
  exact h

/-- Only the channel's part of the invariant can see a PHY turn. -/
theorem HarnessInv.of_phyFrame (h : HarnessInv s) (f : PhyFrame s t) (hchannel : ChannelInv t) : HarnessInv t :=
  .of_parts (h.sequencerInv.of_phyFrame f) (h.configInv.of_phyFrame f) hchannel (h.trace.of_phyFrame f)

end

theorem phyFrame_phyRx (c : Byte) (ferr nerr : Bool) (s : State) : PhyFrame s (phyRx c ferr nerr s) := by
  constructor <;> simp

theorem phyFrame_txTake (s : State) : PhyFrame s (txTake s) := by
  constructor <;> simp

section
variable {s : State}

/-- The invariant does not read the turns to come. -/
theorem HarnessInv.setSched (h : HarnessInv s) (l : List Turn) : HarnessInv (s.setSched l) := { h with }

/-- The invariant does not read the count of draws. -/
theorem HarnessInv.drawn (h : HarnessInv s) : HarnessInv s.drawn := { h with }

/-- The PHY agents are off until `CTL_WR` (R169, R171). -/
theorem HarnessInv.loop_of_uen (h : HarnessInv s) (huen : uen s = true) : 7 ≤ s.upc.toNat := by
  by_contra hlt
  rw [uen, h.control, if_pos (by omega)] at huen
  cases huen

/-- Nothing is pending until the echo loop (R171). -/
theorem HarnessInv.loop_of_txFull (h : HarnessInv s) (hfull : s.txFull = true) : 7 ≤ s.upc.toNat := by
  by_contra hlt
  rw [(h.quiet (by omega)).2] at hfull
  cases hfull

/-- Settles O58: the clocks are on since micro-operation 0, and both fields hold their configuration. -/
theorem pinsStayConnected : Obligations.PinsStayConnected := by
  intro s h hupc
  have hclk : s.rcuClken = Config.clkMask := h.configInv.clocked (by intro h0; simp [h0] at hupc)
  have hgates : afen s = true ∧ paen s = true := by
    rw [afen, paen, hclk]
    exact ⟨rfl, rfl⟩
  exact ⟨(txConnected_iff s).mpr ⟨h.txPin (by omega), hgates⟩, (rxConnected_iff s).mpr ⟨h.rxPin hupc, hgates⟩, h.line⟩

/-- An arrival keeps the invariant: an accepted character is in `rx_buf`, and a lost one is not in `A` (R165, R166). -/
theorem HarnessInv.channelInv_rxArrive (h : HarnessInv s) (hupc : 7 ≤ s.upc.toNat) (c : Byte) (ferr nerr : Bool) :
    ChannelInv (rxArrive c ferr nerr s) := by
  cases hfull : s.rxFull with
  | false =>
    have hlow : (c.setWidth 9).extractLsb' 0 8 = c := by
      rw [lowByte_setWidth _ _ (by decide) (by decide)]
      exact BitVec.extractLsb'_eq_self
    rw [rxArrive_empty hfull]
    constructor
    case quiet => exact fun hquiet => absurd hquiet (Nat.not_le.mpr hupc)
    case received => exact fun _ => rfl
    case sendable => exact h.sendable
    case rxByte => exact fun _ => by rw [hlow]
    case chByte => exact h.chByte
    case echo =>
      rw [acceptedChars_arrived, h.echo]
      simp [inFlight, hfull, hlow]
    case line => exact h.line
  | true =>
    rw [rxArrive_full hfull]
    have hecho : acceptedChars (s.rxHist ++ [.arrived c ferr nerr false]) = sentChars s.txLog ++ inFlight s := by
      rw [acceptedChars_arrived, h.echo]
      exact List.append_nil _
    exact { h.channelInv with echo := hecho }

/-- `tx_take` keeps the invariant: the pending character is sent, and reaches the line (R139, R168). -/
theorem HarnessInv.channelInv_txTake (h : HarnessInv s) (hfull : s.txFull = true) : ChannelInv (txTake s) := by
  have hupc := h.loop_of_txFull hfull
  obtain ⟨hconn, -, -⟩ := pinsStayConnected s h (by omega)
  constructor
  case quiet => exact fun hquiet => absurd hquiet (by rw [txTake_upc]; omega)
  case received => simpa using h.received
  case sendable => simp
  case rxByte => simpa using h.rxByte
  case chByte => simpa using h.chByte
  case echo =>
    rw [txTake_rxHist, h.echo, txTake_txLog, sentChars_taken]
    simp [inFlight, hfull]
  case line => rw [txTake_lineLog hconn, txTake_txLog, h.line]

/-- A `PHY_RX` turn, whatever it offers. -/
theorem HarnessInv.phyRx_keeps (h : HarnessInv s) (c : Byte) (ferr nerr : Bool) :
    HarnessInv (phyRx c ferr nerr s) := by
  cases hen : rxEnabled s with
  | false => rwa [phyRx, if_neg (by simp [hen])]
  | true =>
    have huen : uen s = true := by
      simp only [rxEnabled, Bool.and_eq_true] at hen
      obtain ⟨⟨⟨-, huen⟩, -⟩, -⟩ := hen
      exact huen
    refine h.of_phyFrame (phyFrame_phyRx c ferr nerr s) ?_
    rw [phyRx, if_pos hen]
    exact h.channelInv_rxArrive (h.loop_of_uen huen) c ferr nerr

/-- A line turn offers some character or none (R140, log 15). -/
theorem HarnessInv.lineRx_keeps (h : HarnessInv s) (c : Byte) (ferr nerr : Bool) :
    HarnessInv (lineRx c ferr nerr s) := by
  rcases lineRx_cases s c ferr nerr with hc | ⟨c', ferr', nerr', hc⟩ | hc <;> rw [hc]
  · exact h.phyRx_keeps c ferr nerr
  · exact h.drawn.phyRx_keeps c' ferr' nerr'
  · exact h.drawn

theorem HarnessInv.phyTx_keeps (h : HarnessInv s) : HarnessInv (phyTx s) := by
  rcases phyTx_cases s with hc | ⟨hfull, hc⟩ <;> rw [hc]
  · exact h
  · exact h.of_phyFrame (phyFrame_txTake s) (h.channelInv_txTake hfull)

/-- RESET leads to the launch state but for the markers in the histories, which start their readings anew (R220). -/
theorem HarnessInv.resetStep_keeps (h : HarnessInv s) : HarnessInv (resetStep s) := by
  have hlaunch := harnessInvAtLaunch s.params s.sched h.legal
  have htrace : TraceInv (resetStep s) := by
    rw [TraceInv, resetStep_busLog, transactions_reset]
    exact hlaunch.trace
  exact { hlaunch with
    echo := by rw [resetStep_rxHist, resetStep_txLog, acceptedChars_reset, sentChars_reset]; rfl
    line := by rw [resetStep_lineLog, resetStep_txLog, h.line]
    trace := htrace }

end

end Sys2Proof.Machine
end

section
/-! Every step keeps the harness invariant (spec/45_main_sequencer.md R177, R192, R193): each micro-operation's next
state, then the four parts of the invariant put together over it. -/

namespace Sys2Proof.Machine

/-! ### The micro-operations of the echo loop -/

section
variable {s : State}

/-- A status poll of the micro-program, `upc` chosen by the word read (R185, R187). -/
theorem microRead_usartStat (hr : Running s) (hopen : usart0en s = true) (next : Word → Nibble) :
    microRead .usartStat s (fun v t => (t.setTmp v).setUpc (next v)) =
      .next ((s.polled s.phase).setUpc (next (readValue .usartStat s))) := by
  rw [microRead, whenRunning_eq hr, busRead_open ((gateOpen_usartStat s).trans hopen)]
  rfl

theorem exec_rxPoll (hr : Running s) (hopen : usart0en s = true) :
    exec .rxPoll s = .next ((s.polled s.phase).setUpc (if s.rxFull then 8#4 else 7#4)) := by
  obtain ⟨_, rfl, -, -, hseen, -⟩ := readValue_usartStat s
  exact hseen ▸ microRead_usartStat hr hopen fun v => if rbneSeen v then 8#4 else 7#4

theorem exec_txPoll (hr : Running s) (hopen : usart0en s = true) :
    exec .txPoll s = .next ((s.polled s.phase).setUpc (if !s.txFull then 10#4 else 9#4)) := by
  obtain ⟨_, rfl, -, -, -, hseen⟩ := readValue_usartStat s
  exact hseen ▸ microRead_usartStat hr hopen fun v => if tbeSeen v then 10#4 else 9#4

theorem exec_rxRead (hr : Running s) (hopen : usart0en s = true) (hfull : s.rxFull = true) :
    exec .rxRead s = .next (s.dataRead.setUpc 9#4) := by
  show microRead .usartData s _ = _
  rw [microRead, whenRunning_eq hr, busRead_open ((gateOpen_usartData s).trans hopen), readValue_usartData hfull,
    readEffect_usartData_full hfull]
  rfl

theorem exec_txWrite (hr : Running s) (hopen : usart0en s = true) (hempty : s.txFull = false) :
    exec .txWrite s = .next ((s.wrote .usartData s.ch).setUpc 7#4) :=
  microWrite_open (r := .usartData) hr hopen (writeRefusal_usartData_empty hempty s.ch) 7#4

end

/-! ### A `SEQ` step -/

/-- A `SEQ` step answers a next state, and the invariant holds there. -/
def SeqStepKeeps (s : State) : Prop := ∃ t, seqStep s = .next t ∧ HarnessInv t

section
variable {s : State} {n n' : Nibble} {i : Instr}

/-- A micro-operation of start-up that writes a register other than `USART_DATA`. The written word is the next entry of
the seven, in which the words read so far are `a` and `b` (R193). -/
theorem HarnessInv.startupWrite {r : Reg} {v : Word} (h : HarnessInv s) (hupc : s.upc = n) (hd : decodeUop n = .ok i)
    (he : exec i s = microWrite r v n' s) (hn : n.toNat ≤ 6 ∧ n'.toNat = n.toNat + 1 ∧ n' ≠ 2#4 ∧ n' ≠ 4#4)
    (hopen : gateOpen r s = true) (hlegal : writeRefusal r v s = none) (hdata : r ≠ .usartData)
    (hconfig : ConfigInv ((s.wrote r v).setUpc n'))
    (hentry : ∀ a b, (n = 2#4 → s.tmp = a) → (n = 4#4 → s.tmp = b) →
      (startupTrace s.params a b)[n.toNat]? = some (.write (addrOf s.params r) v)) : SeqStepKeeps s := by
  subst hupc
  obtain ⟨hn6, hsucc, hn2, hn4⟩ := hn
  obtain ⟨a, b, hbefore, htx, hrx⟩ := h.trace.startup (by omega)
  have hlog : transactions (s.wrote r v).busLog = transactions s.busLog ++ [.write (addrOf s.params r) v] := by
    rw [State.wrote, logBus_busLog, writeEffect_busLog, transactions_write]
  refine ⟨_, h.sequencerInv.seqStep rfl hd (he.trans (microWrite_open h.running hopen hlegal n')), .of_parts
    ((h.sequencerInv.wrote r v).setUpc (by omega)) hconfig ?_ ?_⟩
  · exact h.channelInv.startup (channelKept_wrote hdata v n') hn6 (by rw [setUpc_upc]; omega)
  · exact .of_startupEntry (wrote_params ..) (by omega) hsucc hbefore hlog (hentry a b htx hrx)
      (fun h2 => absurd h2 hn2) (fun h4 => absurd h4 hn4)

/-- A micro-operation of start-up that reads a pin's register. The word read is the next entry of the seven for the
right choice of `a'` and `b'`, on which what came before does not depend (R193). -/
theorem HarnessInv.startupRead {pin : Nibble} (h : HarnessInv s) (hupc : s.upc = n) (hd : decodeUop n = .ok i)
    (he : exec i s = microRead (gpioReg pin) s fun v t => (t.setTmp v).setUpc n')
    (hn : n.toNat ≤ 6 ∧ n'.toNat = n.toNat + 1) (hopen : paen s = true)
    (hconfig : ConfigInv ((s.pinRead pin).setUpc n'))
    (hentry : ∀ a b, ∃ a' b',
      (startupTrace s.params a b).take n.toNat = (startupTrace s.params a' b').take n.toNat ∧
      (startupTrace s.params a' b')[n.toNat]? = some (.read (addrOf s.params (gpioReg pin)) (gpioWord s pin)) ∧
      (n' = 2#4 → gpioWord s pin = a') ∧ (n' = 4#4 → gpioWord s pin = b')) : SeqStepKeeps s := by
  subst hupc
  obtain ⟨hn6, hsucc⟩ := hn
  obtain ⟨a, b, hbefore, -, -⟩ := h.trace.startup (by omega)
  obtain ⟨a', b', htake, hnext, htx, hrx⟩ := hentry a b
  refine ⟨_, h.sequencerInv.seqStep rfl hd (he.trans (microRead_pin h.running hopen n')), .of_parts
    { h.sequencerInv with upcLegal := hsucc.trans_le (by omega) } hconfig ?_ ?_⟩
  · exact h.channelInv.startup ⟨rfl, rfl, rfl, rfl, rfl, rfl, rfl, rfl⟩ hn6 (by rw [setUpc_upc]; omega)
  · exact .of_startupEntry (s := s) rfl (by omega) hsucc (hbefore.trans htake) (transactions_read ..) hnext htx hrx

/-- A micro-operation of the echo loop (R193). -/
theorem HarnessInv.loopStep {t : State} {e : BusEvent} (h : HarnessInv s) (hupc : s.upc = n) (hd : decodeUop n = .ok i)
    (he : exec i s = .next t) (hn : 7 ≤ n.toNat) (ht : 7 ≤ t.upc.toNat) (hseq : SequencerInv t)
    (hconfig : Configured s → Configured t) (hchannel : ChannelInv t) (hparams : t.params = s.params)
    (hlog : transactions t.busLog = transactions s.busLog ++ [e]) (hecho : echoTransaction s.params e) :
    SeqStepKeeps s := by
  subst hupc
  exact ⟨t, h.sequencerInv.seqStep rfl hd he, .of_parts hseq ((hconfig (h.configInv.configured hn)).configInv ht)
    hchannel (h.trace.of_echoTransaction hparams hn ht hlog hecho)⟩

end

/-! ### The eleven micro-operations -/

section
variable {s : State}

/-- The gates of all registers are open from micro-operation 1 on (R178). -/
theorem HarnessInv.gates (h : HarnessInv s) (hupc : s.upc ≠ 0#4) : paen s = true ∧ usart0en s = true :=
  ⟨paen_of_clkMask (h.configInv.clocked hupc), usart0en_of_clkMask (h.configInv.clocked hupc)⟩

theorem HarnessInv.clkEn (h : HarnessInv s) (hupc : s.upc = 0#4) : SeqStepKeeps s :=
  h.startupWrite hupc rfl rfl (by decide) (gateOpen_rcuClken s) rfl nofun (h.configInv.clkEn hupc)
    fun _ _ _ _ => rfl

theorem HarnessInv.txpRd (h : HarnessInv s) (hupc : s.upc = 1#4) : SeqStepKeeps s := by
  obtain ⟨hopen, -⟩ := h.gates (by simp [hupc])
  exact h.startupRead hupc rfl rfl (by decide) hopen (h.configInv.txpRd hupc)
    fun _ b => ⟨gpioWord s s.params.txPin, b, rfl, rfl, fun _ => rfl, nofun⟩

theorem HarnessInv.txpWr (h : HarnessInv s) (hupc : s.upc = 2#4) : SeqStepKeeps s := by
  obtain ⟨hopen, -⟩ := h.gates (by simp [hupc])
  refine h.startupWrite hupc rfl rfl (by decide) ((gateOpen_gpioReg _ s).trans hopen) (writeRefusal_gpioReg ..)
    (gpioReg_ne_usartData _) (h.configInv.txpWr hupc) fun a b htx _ => ?_
  rw [htx rfl]
  rfl

theorem HarnessInv.rxpRd (h : HarnessInv s) (hupc : s.upc = 3#4) : SeqStepKeeps s := by
  obtain ⟨hopen, -⟩ := h.gates (by simp [hupc])
  exact h.startupRead hupc rfl rfl (by decide) hopen (h.configInv.rxpRd hupc)
    fun a _ => ⟨a, gpioWord s s.params.rxPin, rfl, rfl, nofun, fun _ => rfl⟩

theorem HarnessInv.rxpWr (h : HarnessInv s) (hupc : s.upc = 4#4) : SeqStepKeeps s := by
  obtain ⟨hopen, -⟩ := h.gates (by simp [hupc])
  obtain ⟨-, -, hpins, -⟩ := (legal_iff s.params).mp h.legal
  refine h.startupWrite hupc rfl rfl (by decide) ((gateOpen_gpioReg _ s).trans hopen) (writeRefusal_gpioReg ..)
    (gpioReg_ne_usartData _) (h.configInv.rxpWr hupc hpins) fun a b _ hrx => ?_
  rw [hrx rfl]
  rfl

theorem HarnessInv.baudWr (h : HarnessInv s) (hupc : s.upc = 5#4) : SeqStepKeeps s := by
  obtain ⟨-, hopen⟩ := h.gates (by simp [hupc])
  exact h.startupWrite hupc rfl rfl (by decide) hopen (writeRefusal_usartBaud_legal (divisorWord_legal h.legal) s) nofun
    (h.configInv.baudWr hupc) fun _ _ _ _ => rfl

theorem HarnessInv.ctlWr (h : HarnessInv s) (hupc : s.upc = 6#4) : SeqStepKeeps s := by
  obtain ⟨-, hopen⟩ := h.gates (by simp [hupc])
  exact h.startupWrite hupc rfl rfl (by decide) hopen (writeRefusal_usartCtl0_legal rfl s) nofun
    (h.configInv.ctlWr hupc) fun _ _ _ _ => rfl

theorem HarnessInv.rxPoll (h : HarnessInv s) (hupc : s.upc = 7#4) : SeqStepKeeps s := by
  obtain ⟨-, hopen⟩ := h.gates (by simp [hupc])
  refine h.loopStep hupc rfl (exec_rxPoll h.running hopen) (by decide) ?_ ?_ (fun hc => { hc with })
    (h.channelInv.rxPoll hupc) rfl (transactions_read ..) (.inl rfl)
  · rw [setUpc_upc]
    split <;> decide
  · exact { h.sequencerInv with upcLegal := pollTarget_le _ _ _ (by decide) (by decide) }

theorem HarnessInv.rxRead (h : HarnessInv s) (hupc : s.upc = 8#4) : SeqStepKeeps s := by
  obtain ⟨-, hopen⟩ := h.gates (by simp [hupc])
  exact h.loopStep hupc rfl (exec_rxRead h.running hopen (h.received hupc)) (by decide) (by simp)
    { h.sequencerInv with upcLegal := by simp } (fun hc => { hc with }) (h.channelInv.rxRead hupc) rfl
    (transactions_read ..) (.inr rfl)

theorem HarnessInv.txPoll (h : HarnessInv s) (hupc : s.upc = 9#4) : SeqStepKeeps s := by
  obtain ⟨-, hopen⟩ := h.gates (by simp [hupc])
  refine h.loopStep hupc rfl (exec_txPoll h.running hopen) (by decide) ?_ ?_ (fun hc => { hc with })
    (h.channelInv.txPoll hupc) rfl (transactions_read ..) (.inl rfl)
  · rw [setUpc_upc]
    split <;> decide
  · exact { h.sequencerInv with upcLegal := pollTarget_le _ _ _ (by decide) (by decide) }

theorem HarnessInv.txWrite (h : HarnessInv s) (hupc : s.upc = 10#4) : SeqStepKeeps s := by
  obtain ⟨-, hopen⟩ := h.gates (by simp [hupc])
  exact h.loopStep hupc rfl (exec_txWrite h.running hopen (h.sendable hupc)) (by decide) (by simp)
    ((h.sequencerInv.wrote ..).setUpc (by decide)) (fun hc => { hc with }) (h.channelInv.txWrite hupc) rfl
    (transactions_write ..) rfl

/-- Under the invariant `SEQ` has a step, and it keeps the invariant: one micro-operation for each value of `upc`. -/
theorem HarnessInv.seqStep_keeps (h : HarnessInv s) : SeqStepKeeps s := by
  obtain ⟨k, hk⟩ : ∃ k, s.upc.toNat = k := ⟨_, rfl⟩
  have hupc {n : Nibble} (hn : n.toNat = k) : s.upc = n := BitVec.eq_of_toNat_eq (hk.trans hn.symm)
  have hle : k ≤ 10 := hk ▸ h.upcLegal
  match k, hle with
  | 0, _ => exact h.clkEn (hupc rfl)
  | 1, _ => exact h.txpRd (hupc rfl)
  | 2, _ => exact h.txpWr (hupc rfl)
  | 3, _ => exact h.rxpRd (hupc rfl)
  | 4, _ => exact h.rxpWr (hupc rfl)
  | 5, _ => exact h.baudWr (hupc rfl)
  | 6, _ => exact h.ctlWr (hupc rfl)
  | 7, _ => exact h.rxPoll (hupc rfl)
  | 8, _ => exact h.rxRead (hupc rfl)
  | 9, _ => exact h.txPoll (hupc rfl)
  | 10, _ => exact h.txWrite (hupc rfl)

end

/-! ### Every step -/

theorem HarnessInv.of_seqStep {s t : State} (h : HarnessInv s) (ht : seqStep s = .next t) : HarnessInv t := by
  obtain ⟨u, hu, hinv⟩ := h.seqStep_keeps
  cases ht.symm.trans hu
  exact hinv

/-- Settles O54: a `SEQ` step by its micro-operation, the PHY turns by what they move, RESET as at launch; the turns
that need a fault or illegal parameters do not occur. -/
theorem everyStepKeepsHarnessInv : Obligations.EveryStepKeepsHarnessInv := by
  intro s t h ht
  cases step_next_cases ht with
  | seqLast _ _ ht => exact h.of_seqStep ht
  | seq _ rest _ ht => exact (h.setSched rest).of_seqStep ht
  | pass _ rest _ hf _ => exact absurd h.running.2 hf
  | rxArrive _ c ferr nerr rest _ _ ht => exact ht ▸ (h.setSched rest).phyRx_keeps c ferr nerr
  | lineRx _ c ferr nerr rest _ _ ht => exact ht ▸ (h.setSched rest).lineRx_keeps c ferr nerr
  | txTake _ rest _ _ ht => exact ht ▸ (h.setSched rest).phyTx_keeps
  | reset rest _ ht => exact ht ▸ (h.setSched rest).resetStep_keeps
  | illegal hl _ _ _ => exact absurd h.legal (by simp [hl])

end Sys2Proof.Machine
end

section
/-! `UsartController.init` (spec/43_usart_init_baud.md R142 to R144): each of its two steps is one write transaction, so
the operation is settled by the outcomes of a driver operation's write. -/

namespace Sys2Proof.Machine

/-! ### A driver operation's write that does not complete -/

section
variable {r : Reg} {v : Word} {s : State}

theorem opWrite_illegal {e : Refusal} (hr : Running s) (hopen : gateOpen r s = true)
    (hillegal : writeRefusal r v s = some e) (ph : OpPhase) : opWrite r v ph s = .refused e := by
  rw [opWrite, whenRunning_eq hr, busWrite_illegal hopen hillegal]

/-- A driver operation's fault names no `upc` (R197, log 12). -/
theorem opWrite_closed (hr : Running s) (hclosed : gateOpen r s = false) (ph : OpPhase) :
    opWrite r v ph s = .next (clockFaulted s none (addrOf s.params r)) := by
  rw [opWrite, whenRunning_eq hr, busWrite_closed hclosed, raiseClockNotReady_eq hr.2]

end

/-! ### The two transactions -/

/-- The state after the write of `USART_BAUD` (R143, log 10). -/
def State.initBaud (s : State) (divisor : Word) : State :=
  (s.wrote .usartBaud divisor).setPhase (.initControl divisor)

/-- The state after the write of `USART_CTL0` with the fixed word (R143, R144). -/
def State.initDone (s : State) : State := (s.wrote .usartCtl0 Config.usartEnWord).setPhase .idle

section
variable {s : State} {divisor : Word}

/-- The first transaction accepts every legal divisor (R142, R143). -/
theorem exec_init_first (hr : Running s) (hopen : usart0en s = true) (hlegal : divisorLegal divisor = true)
    (hph : s.phase ≠ .initControl divisor) : exec (.init divisor) s = .next (s.initBaud divisor) := by
  rw [exec_init_baud hph]
  exact opWrite_open (r := .usartBaud) hr hopen (writeRefusal_usartBaud_legal hlegal s) _

/-- The second transaction writes a fixed word, which is never refused (R144). -/
theorem exec_init_second (hr : Running s) (hopen : usart0en s = true) (hph : s.phase = .initControl divisor) :
    exec (.init divisor) s = .next s.initDone := by
  rw [exec_init_control hph]
  exact opWrite_open (r := .usartCtl0) hr hopen rfl _

/-- The write of the divisor leaves the gate and the fault record as they are, so the second step finds them unchanged. -/
theorem exec_init_twice (hr : Running s) (hopen : usart0en s = true) (hlegal : divisorLegal divisor = true)
    (hph : s.phase ≠ .initControl divisor) :
    exec (.init divisor) s = .next (s.initBaud divisor) ∧
      exec (.init divisor) (s.initBaud divisor) = .next (s.initBaud divisor).initDone :=
  ⟨exec_init_first hr hopen hlegal hph, exec_init_second (s := s.initBaud divisor) hr hopen rfl⟩

/-- The divisor is refused at the first transaction (R142). -/
theorem exec_init_illegal (hr : Running s) (hopen : usart0en s = true) (hillegal : divisorLegal divisor = false)
    (hph : s.phase ≠ .initControl divisor) : exec (.init divisor) s = .refused .divisorOutOfRange := by
  rw [exec_init_baud hph]
  exact opWrite_illegal (r := .usartBaud) hr hopen (writeRefusal_usartBaud_illegal hillegal s) _

end

/-- Settles O22: by the phase and the gate, and at the first transaction by the divisor. -/
theorem initWritesBaudThenControl : Obligations.InitWritesBaudThenControl := by
  intro s d hr
  refine ⟨fun hopen hpos hmax hph => ?_, fun hopen hph => ?_, fun hopen hph hout => ?_, fun hclosed hph => ?_,
    fun hclosed hph => ?_⟩
  · obtain ⟨hbaud, hcontrol⟩ := exec_init_twice hr hopen ((divisorLegal_iff d).mpr ⟨hpos, hmax⟩) hph
    exact ⟨s.initBaud d, hbaud, rfl, hcontrol⟩
  · exact exec_init_second hr hopen hph
  · exact exec_init_illegal hr hopen (divisorLegal_false hout) hph
  · rw [exec_init_baud hph]
    exact opWrite_closed (r := .usartBaud) hr hclosed _
  · rw [exec_init_control hph]
    exact opWrite_closed (r := .usartCtl0) hr hclosed _

end Sys2Proof.Machine
end

section
/-! `SerialChannel.receive` and `SerialChannel.transmit` (spec/44_serial_channel.md R154 to R162): each step is one
status read or the one data access, so the operations are settled by the outcomes of a driver operation's
transaction. -/

namespace Sys2Proof.Machine

/-! ### A driver operation's read -/

/-- One read transaction of a driver operation, whose word `k` keeps (R162). -/
def opRead (r : Reg) (k : Word → State → State) (s : State) : Result :=
  whenRunning s (busRead none r s fun v t => .next (k v t))

section
variable {r : Reg} {s : State}

theorem opRead_open (hr : Running s) (hopen : gateOpen r s = true) (k : Word → State → State) :
    opRead r k s = .next (k (readValue r s) ((readEffect r s).logBus (.read (addrOf s.params r) (readValue r s)))) := by
  rw [opRead, whenRunning_eq hr, busRead_open hopen]

theorem opRead_closed (hr : Running s) (hclosed : gateOpen r s = false) (k : Word → State → State) :
    opRead r k s = .next (clockFaulted s none (addrOf s.params r)) := by
  rw [opRead, whenRunning_eq hr, busRead_closed hclosed, raiseClockNotReady_eq hr.2]

end

/-! ### Which transaction is due -/

section
variable {s : State} {v : Word}

theorem exec_receive_statusDue (hph : s.phase ≠ .receiveReady) : exec .receive s =
    opRead .usartStat
      (fun w t => (t.setTmp w).setPhase (if rbneSeen w then .receiveReady else .receiveWaiting)) s := by
  show execReceive s = _
  rw [execReceive, if_neg hph, opRead]

theorem exec_receive_dataDue (hph : s.phase = .receiveReady) :
    exec .receive s = opRead .usartData (fun w t => (t.setCh w).setPhase .idle) s := by
  show execReceive s = _
  rw [execReceive, if_pos hph, opRead]

theorem exec_transmit_statusDue (hph : s.phase ≠ .transmitReady v) : exec (.transmit v) s =
    opRead .usartStat
      (fun w t => (t.setTmp w).setPhase (if tbeSeen w then .transmitReady v else .transmitWaiting v)) s := by
  show execTransmit v s = _
  rw [execTransmit, if_neg hph, opRead]

theorem exec_transmit_dataDue (hph : s.phase = .transmitReady v) :
    exec (.transmit v) s = opWrite .usartData v .idle s := by
  show execTransmit v s = _
  rw [execTransmit, if_pos hph, opWrite]

/-! ### The data access -/

/-- The data read finds the character the poll has seen (R156). -/
theorem exec_receive_full (hr : Running s) (hopen : usart0en s = true) (hph : s.phase = .receiveReady)
    (hfull : s.rxFull = true) : exec .receive s = .next (s.dataRead.setPhase .idle) := by
  rw [exec_receive_dataDue hph, opRead_open hr ((gateOpen_usartData s).trans hopen), readValue_usartData hfull,
    readEffect_usartData_full hfull]
  rfl

/-- A data read of an empty buffer returns a free value (R109, log 13). -/
theorem exec_receive_empty (hr : Running s) (hopen : usart0en s = true) (hph : s.phase = .receiveReady)
    (hempty : s.rxFull = false) : exec .receive s =
      .next (((s.drawn.logBus (.read (addrOf s.params .usartData) ((Config.dataDraw s.draws).setWidth 32))).setCh
        ((Config.dataDraw s.draws).setWidth 32)).setPhase .idle) := by
  rw [exec_receive_dataDue hph, opRead_open hr ((gateOpen_usartData s).trans hopen), readValue_usartData_empty hempty,
    readEffect_usartData_empty hempty]

/-- The operand goes out as it is (R160). -/
theorem exec_transmit_empty (hr : Running s) (hopen : usart0en s = true) (hph : s.phase = .transmitReady v)
    (hempty : s.txFull = false) : exec (.transmit v) s = .next ((s.wrote .usartData v).setPhase .idle) := by
  rw [exec_transmit_dataDue hph]
  exact opWrite_open (r := .usartData) hr hopen (writeRefusal_usartData_empty hempty v) _

theorem exec_transmit_full (hr : Running s) (hopen : usart0en s = true) (hph : s.phase = .transmitReady v)
    (hfull : s.txFull = true) : exec (.transmit v) s = .refused .transmitBufferFull := by
  rw [exec_transmit_dataDue hph]
  exact opWrite_illegal (r := .usartData) hr hopen (writeRefusal_usartData_full hfull v) _

end

/-- Settles O23: by the phase and the gate, and at the data read by the buffer's flag. -/
theorem receivePollsThenReads : Obligations.ReceivePollsThenReads := by
  intro s hr
  refine ⟨fun hopen hph => ?_, exec_receive_full hr, exec_receive_empty hr, fun hclosed hph => ?_,
    fun hclosed hph => ?_⟩
  · obtain ⟨_, rfl, hrbne, htbe, -⟩ := readValue_usartStat s
    exact ⟨_, hrbne, htbe, exec_receive_poll hr hopen hph⟩
  · rw [exec_receive_statusDue hph]
    exact opRead_closed (r := .usartStat) hr hclosed _
  · rw [exec_receive_dataDue hph]
    exact opRead_closed (r := .usartData) hr hclosed _

/-- Settles O24: by the phase and the gate, and at the data write by the buffer's flag. -/
theorem transmitPollsThenWrites : Obligations.TransmitPollsThenWrites := by
  intro s v hr
  refine ⟨fun hopen hph => ?_, fun hopen hph hempty => ?_, exec_transmit_full hr, fun hclosed hph => ?_,
    fun hclosed hph => ?_⟩
  · obtain ⟨_, rfl, hrbne, htbe, -⟩ := readValue_usartStat s
    exact ⟨_, hrbne, htbe, exec_transmit_poll hr hopen hph⟩
  · rw [exec_transmit_empty hr hopen hph hempty, wrote_usartData]
    rfl
  · rw [exec_transmit_statusDue hph]
    exact opRead_closed (r := .usartStat) hr hclosed _
  · rw [exec_transmit_dataDue hph]
    exact opWrite_closed (r := .usartData) hr hclosed _

end Sys2Proof.Machine
end

section
/-! The turns of the PHY agents (spec/44_serial_channel.md R165 to R169, R208): an enabled agent acts, a disabled one
lets its turn pass. -/

namespace Sys2Proof.Machine

/-! ### A turn of the schedule -/

theorem step_of_turn {s : State} {turn : Turn} {rest : List Turn} (hl : s.params.legal = true)
    (h : s.sched = turn :: rest) : step s = agentStep turn (s.setSched rest) := by
  rw [step_of_legal hl, nextTurn, h]

theorem unlessRefused_of_unrefused {s : State} (h : s.refused = none) (t : State) : unlessRefused s t = .next t := by
  rw [unlessRefused, h]

theorem step_of_rxArrive {s : State} {c : Byte} {ferr nerr : Bool} {rest : List Turn} (hl : s.params.legal = true)
    (hr : s.refused = none) (h : s.sched = .rxArrive c ferr nerr :: rest) :
    step s = .next (phyRx c ferr nerr (s.setSched rest)) :=
  (step_of_turn hl h).trans (unlessRefused_of_unrefused (s := s.setSched rest) hr _)

/-! ### Enabled and disabled agents -/

theorem phyRx_enabled {s : State} (h : rxEnabled s = true) (c : Byte) (ferr nerr : Bool) :
    phyRx c ferr nerr s = rxArrive c ferr nerr s := if_pos h

theorem phyRx_disabled {s : State} (h : rxEnabled s = false) (c : Byte) (ferr nerr : Bool) :
    phyRx c ferr nerr s = s := by
  simp [phyRx, h]

theorem phyTx_disabled {s : State} (h : txEnabled s = false ∨ s.txFull = false) : phyTx s = s := by
  rcases h with h | h <;> simp [phyTx, h]

/-- `rx_enabled` fails with any one of its four conditions (R169). -/
theorem rxEnabled_eq_false {s : State}
    (h : usart0en s = false ∨ uen s = false ∨ ren s = false ∨ s.usartBaud = 0#32 ∨ 0xFFFF < s.usartBaud.toNat) :
    rxEnabled s = false := by
  rcases h with h | h | h | h
  · simp [rxEnabled, h]
  · simp [rxEnabled, h]
  · simp [rxEnabled, h]
  · simp [rxEnabled, baudOk, divisorLegal_false h]

/-- `tx_enabled` fails with any one of its four conditions (R169). -/
theorem txEnabled_eq_false {s : State}
    (h : usart0en s = false ∨ uen s = false ∨ ten s = false ∨ s.usartBaud = 0#32 ∨ 0xFFFF < s.usartBaud.toNat) :
    txEnabled s = false := by
  rcases h with h | h | h | h
  · simp [txEnabled, h]
  · simp [txEnabled, h]
  · simp [txEnabled, h]
  · simp [txEnabled, baudOk, divisorLegal_false h]

/-- Settles O33: the turn is an arrival, at an empty or at a full buffer. -/
theorem characterArrives : Obligations.CharacterArrives := by
  intro s c ferr nerr rest hl hr hsched hen
  have hstep : step s = .next (rxArrive c ferr nerr (s.setSched rest)) := by
    rw [step_of_rxArrive hl hr hsched, phyRx_enabled (s := s.setSched rest) hen]
  rw [hstep]
  refine ⟨fun hempty => ?_, fun hfull => ?_⟩
  · rw [rxArrive_empty (s := s.setSched rest) hempty]
    rfl
  · rw [rxArrive_full (s := s.setSched rest) hfull]
    rfl

/-- Settles O35: each condition of the statement disables the agent, or leaves `PHY_TX` nothing to take. -/
theorem disabledPhyTurnsPass : Obligations.DisabledPhyTurnsPass := by
  intro s rest hl hr
  refine ⟨fun c ferr nerr hsched hoff => ?_, fun hsched hoff => ?_⟩
  · rw [step_of_rxArrive hl hr hsched, phyRx_disabled (s := s.setSched rest) (rxEnabled_eq_false hoff)]
    rfl
  · have hidle : txEnabled s = false ∨ s.txFull = false := by
      refine Or.imp_left txEnabled_eq_false ?_
      simp only [or_assoc]
      exact hoff
    rw [step_of_txTake hl hr hsched, phyTx_disabled (s := s.setSched rest) hidle]
    rfl

end Sys2Proof.Machine
end

section
/-! Every accepted character is sent (spec/44_serial_channel.md R170; spec/45_main_sequencer.md R192, its second part).
First what one turn does to the characters and to `upc`, then a fair run: while a character is inside the harness and
none is sent, every `SEQ` turn leads on to `TX_WRITE`, and then `TX_FAIR` leads to `tx_take`. -/

namespace Sys2Proof.Machine

/-! ### One turn of the harness -/

section
variable {s t : State} {turn : Turn}

/-- A turn is the step of a machine that is scheduled to take it, so what is known of every step holds of a turn. -/
theorem step_of_scheduled (hl : s.params.legal = true) (turn : Turn) :
    step (s.setSched (turn :: s.sched)) = agentStep turn s :=
  step_of_turn (s := s.setSched (turn :: s.sched)) hl rfl

theorem HarnessInv.of_agentStep (h : HarnessInv s) (ht : agentStep turn s = .next t) : HarnessInv t :=
  everyStepKeepsHarnessInv _ t (h.setSched (turn :: s.sched)) ((step_of_scheduled h.legal turn).trans ht)

theorem HarnessInv.agentStep_seq (h : HarnessInv s) : agentStep .seq s = seqStep s :=
  seqTurn_eq_seqStep (.inr h.running.2)

/-- Every agent has a turn in the running harness (R208). -/
theorem HarnessInv.agentStep_next (h : HarnessInv s) (turn : Turn) : ∃ t, agentStep turn s = .next t := by
  have hphy (u : State) : ∃ t, unlessRefused s u = .next t := ⟨u, unlessRefused_of_unrefused h.running.1 u⟩
  cases turn with
  | seq =>
    obtain ⟨t, ht, -⟩ := h.seqStep_keeps
    exact ⟨t, h.agentStep_seq.trans ht⟩
  | rxArrive c ferr nerr => exact hphy _
  | lineRx c ferr nerr => exact hphy _
  | txTake => exact hphy _
  | reset => exact ⟨_, rfl⟩

/-! ### What a turn does to the characters -/

/-- Nothing accepted or sent is lost from the histories' readings. -/
def CharactersKept (s t : State) : Prop :=
  acceptedChars s.rxHist <+: acceptedChars t.rxHist ∧ sentChars s.txLog <+: sentChars t.txLog

theorem CharactersKept.of_eq (hrx : t.rxHist = s.rxHist) (htx : t.txLog = s.txLog) : CharactersKept s t := by
  rw [CharactersKept, hrx, htx]
  exact ⟨List.prefix_rfl, List.prefix_rfl⟩

theorem ExecCase.characters_eq {i : Instr} (h : ExecCase i s t) : t.rxHist = s.rxHist ∧ t.txLog = s.txLog := by
  cases h with
  | gated r u _ _ ht => simp [ht]
  | read r n v c ph _ _ _ ht => simp [ht]
  | write r w n v c ph _ _ _ _ ht => simp [ht]

/-- `SEQ` moves characters inside the harness only. -/
theorem seqStep_characters_eq (h : seqStep s = .next t) : t.rxHist = s.rxHist ∧ t.txLog = s.txLog := by
  obtain ⟨i, u, l, hu, rfl⟩ | ⟨r, rfl⟩ | rfl := seqStep_exec_cases h
  · exact hu.characters_eq
  · exact ⟨rfl, rfl⟩
  · exact ⟨rfl, rfl⟩

theorem rxArrive_charactersKept (c : Byte) (ferr nerr : Bool) (s : State) :
    CharactersKept s (rxArrive c ferr nerr s) := by
  cases hfull : s.rxFull with
  | false => simp [CharactersKept, rxArrive_empty hfull]
  | true => simp [CharactersKept, rxArrive_full hfull]

theorem phyRx_charactersKept (c : Byte) (ferr nerr : Bool) (s : State) : CharactersKept s (phyRx c ferr nerr s) := by
  rcases phyRx_cases c ferr nerr s with h | h <;> rw [h]
  · exact .of_eq rfl rfl
  · exact rxArrive_charactersKept c ferr nerr s

theorem lineRx_charactersKept (c : Byte) (ferr nerr : Bool) (s : State) : CharactersKept s (lineRx c ferr nerr s) := by
  rcases lineRx_cases s c ferr nerr with h | ⟨c', ferr', nerr', h⟩ | h <;> rw [h]
  · exact phyRx_charactersKept c ferr nerr s
  · exact phyRx_charactersKept c' ferr' nerr' s.drawn
  · exact .of_eq rfl rfl

theorem phyTx_charactersKept (s : State) : CharactersKept s (phyTx s) := by
  rcases phyTx_cases s with h | ⟨-, h⟩ <;> rw [h]
  · exact .of_eq rfl rfl
  · simp [CharactersKept]

@[simp] theorem lineRx_upc (c : Byte) (ferr nerr : Bool) (s : State) : (lineRx c ferr nerr s).upc = s.upc := by
  rcases lineRx_cases s c ferr nerr with h | ⟨c', ferr', nerr', h⟩ | h <;> simp [h]

@[simp] theorem phyTx_upc (s : State) : (phyTx s).upc = s.upc := by
  rcases phyTx_cases s with h | ⟨-, h⟩ <;> simp [h]

/-- A turn but RESET is `SEQ`'s, or a PHY agent's, which leaves `upc`; no character is lost (R32, R192). -/
theorem HarnessInv.agentStep_cases (h : HarnessInv s) (hturn : turn ≠ .reset) (ht : agentStep turn s = .next t) :
    CharactersKept s t ∧ (turn = .seq ∧ seqStep s = .next t ∨ turn ≠ .seq ∧ t.upc = s.upc) := by
  cases turn with
  | seq =>
    have hseq : seqStep s = .next t := h.agentStep_seq.symm.trans ht
    obtain ⟨hrx, htx⟩ := seqStep_characters_eq hseq
    exact ⟨.of_eq hrx htx, .inl ⟨rfl, hseq⟩⟩
  | rxArrive c ferr nerr =>
    obtain ⟨-, rfl⟩ := unlessRefused_next ht
    exact ⟨phyRx_charactersKept .., .inr ⟨nofun, phyRx_upc ..⟩⟩
  | lineRx c ferr nerr =>
    obtain ⟨-, rfl⟩ := unlessRefused_next ht
    exact ⟨lineRx_charactersKept .., .inr ⟨nofun, lineRx_upc ..⟩⟩
  | txTake =>
    obtain ⟨-, rfl⟩ := unlessRefused_next ht
    exact ⟨phyTx_charactersKept _, .inr ⟨nofun, phyTx_upc _⟩⟩
  | reset => exact absurd rfl hturn

/-- A pending character stays in `tx_buf` until it is sent (R168, R171). -/
theorem HarnessInv.txFull_kept (h : HarnessInv s) (hturn : turn ≠ .reset) (ht : agentStep turn s = .next t)
    (hfull : s.txFull = true) (hsent : sentChars t.txLog = sentChars s.txLog) : t.txFull = true := by
  by_contra hempty
  obtain ⟨rest, hreset | ⟨-, hlog⟩⟩ := (step_txMove ((step_of_scheduled h.legal turn).trans ht)).falls hfull
    (Bool.not_eq_true _ ▸ hempty)
  · cases hreset
    exact hturn rfl
  · simp [hlog] at hsent

/-- The transmitter is enabled throughout the echo loop (R169, R177). -/
theorem HarnessInv.txEnabled (h : HarnessInv s) (hupc : 7 ≤ s.upc.toNat) : txEnabled s = true := by
  have hc := h.configInv.configured hupc
  have hbaud : baudOk s = true := by
    rw [baudOk, hc.divisor]
    exact divisorWord_legal h.legal
  rw [Machine.txEnabled, usart0en_of_clkMask hc.clocks, uen, ten, hc.control, hbaud]
  rfl

/-- `tx_take` of a pending character sends it (R168). -/
theorem HarnessInv.txTake_sends (h : HarnessInv s) (ht : agentStep .txTake s = .next t) (hfull : s.txFull = true) :
    sentChars t.txLog ≠ sentChars s.txLog := by
  obtain ⟨-, rfl⟩ := unlessRefused_next ht
  rw [phyTx_pending (h.txEnabled (h.loop_of_txFull hfull)) hfull]
  simp

/-- With a character inside the harness and nothing pending, a `SEQ` step goes on to the next micro-operation of the
echo loop, and from `TX_WRITE` to a pending character (R185 to R188). -/
theorem HarnessInv.seqStep_advances (h : HarnessInv s) (hempty : s.txFull = false) (hheld : inFlight s ≠ [])
    (ht : seqStep s = .next t) : t.txFull = true ∨ t.upc.toNat = s.upc.toNat + 1 := by
  have hrx : s.rxFull = true ∨ s.upc = 9#4 ∨ s.upc = 10#4 := by
    by_contra hnone
    rw [not_or, Bool.not_eq_true] at hnone
    obtain ⟨hrx, hch⟩ := hnone
    exact hheld (by simp [inFlight, hempty, hch, hrx])
  have hloop : 7 ≤ s.upc.toNat := by
    rcases hrx with hfull | hupc | hupc
    · by_contra hlt
      simp [(h.quiet (by omega)).1] at hfull
    · simp [hupc]
    · simp [hupc]
  have hopen : usart0en s = true := usart0en_of_clkMask (h.configInv.configured hloop).clocks
  have hgo {n : Nibble} {i : Instr} {u : State} (hupc : s.upc = n) (hd : decodeUop n = .ok i)
      (he : exec i s = .next u) : t = u :=
    Host.Outcome.next.inj (ht.symm.trans (h.sequencerInv.seqStep hupc hd he))
  obtain hupc | hupc | hupc | hupc : s.upc = 7#4 ∨ s.upc = 8#4 ∨ s.upc = 9#4 ∨ s.upc = 10#4 := by
    have hlegal := h.upcLegal
    bv_omega
  · have hfull : s.rxFull = true := by simpa [hupc] using hrx
    simp [hgo hupc rfl (exec_rxPoll h.running hopen), hfull, hupc]
  · simp [hgo hupc rfl (exec_rxRead h.running hopen (h.received hupc)), hupc]
  · simp [hgo hupc rfl (exec_txPoll h.running hopen), hempty, hupc]
  · simp [hgo hupc rfl (exec_txWrite h.running hopen hempty), wrote_usartData]

end

/-! ### A fair run -/

/-- The states `r` are those of the harness under the fair schedule `σ` without RESET (R170, log 22). -/
structure FairRun (σ : Nat → Turn) (r : Nat → State) : Prop where
  inv : ∀ j, HarnessInv (r j)
  next : ∀ j, agentStep (σ j) (r j) = .next (r (j + 1))
  noReset : ∀ j, σ j ≠ .reset
  seqFair : SeqFair σ
  txFair : ∀ k, (∀ j, k ≤ j → txEnabled (r j) = true ∧ (r j).txFull = true) → ∃ j, k ≤ j ∧ σ j = .txTake

/-- From turn `k` on no character is sent. -/
def Stalled (r : Nat → State) (k : Nat) : Prop :=
  ∀ j, k ≤ j → sentChars (r j).txLog = sentChars (r k).txLog

theorem turns_succ {σ : Nat → Turn} {s t : State} {k : Nat} (h : turns σ s k = .next t) :
    turns σ s (k + 1) = agentStep (σ k) t := by
  simp [turns, h]

/-- The harness runs on under every schedule (R208). -/
theorem HarnessInv.turns_next {s : State} (h : HarnessInv s) (σ : Nat → Turn) (k : Nat) :
    ∃ t, turns σ s k = .next t ∧ HarnessInv t := by
  induction k with
  | zero => exact ⟨s, rfl, h⟩
  | succ k ih =>
    obtain ⟨t, hrun, ht⟩ := ih
    obtain ⟨u, hu⟩ := ht.agentStep_next (σ k)
    exact ⟨u, (turns_succ hrun).trans hu, ht.of_agentStep hu⟩

theorem exists_fairRun {s : State} {σ : Nat → Turn} (h : HarnessInv s) (hreset : ∀ k, σ k ≠ .reset) (hseq : SeqFair σ)
    (htx : TxFair σ s) : ∃ r, FairRun σ r ∧ ∀ k, turns σ s k = .next (r k) := by
  choose r hrun hinv using h.turns_next σ
  refine ⟨r, ⟨hinv, fun j => (turns_succ (hrun j)).symm.trans (hrun (j + 1)), hreset, hseq, fun k hk => ?_⟩, hrun⟩
  exact htx k fun j hj => ⟨r j, hrun j, hk j hj⟩

section
variable {σ : Nat → Turn} {r : Nat → State} {j k : Nat}

theorem FairRun.charactersKept (h : FairRun σ r) (hkj : k ≤ j) : CharactersKept (r k) (r j) := by
  induction j, hkj using Nat.le_induction with
  | base => exact .of_eq rfl rfl
  | succ j _ ih =>
    obtain ⟨⟨hrx, htx⟩, -⟩ := (h.inv j).agentStep_cases (h.noReset j) (h.next j)
    exact ⟨ih.1.trans hrx, ih.2.trans htx⟩

/-- What is accepted is sent or inside the harness, so a character is inside where more is accepted than sent (R192). -/
theorem HarnessInv.inFlight_ne_nil_iff {s : State} (h : HarnessInv s) :
    inFlight s ≠ [] ↔ (sentChars s.txLog).length < (acceptedChars s.rxHist).length := by
  rw [h.echo, List.length_append, ← List.length_pos_iff]
  omega

/-- What is inside the harness stays inside until it is sent. -/
theorem FairRun.inFlight_kept (h : FairRun σ r) (hstall : Stalled r k) (hheld : inFlight (r k) ≠ []) (hkj : k ≤ j) :
    inFlight (r j) ≠ [] := by
  rw [(h.inv k).inFlight_ne_nil_iff] at hheld
  rw [(h.inv j).inFlight_ne_nil_iff, hstall j hkj]
  exact hheld.trans_le (h.charactersKept hkj).1.length_le

/-- While nothing is sent nothing is pending: it would stay pending, and `TX_FAIR` would have it taken (R170). -/
theorem FairRun.txFull_false (h : FairRun σ r) (hstall : Stalled r k) (hkj : k ≤ j) : (r j).txFull = false := by
  by_contra hfull
  have hpending : ∀ i, j ≤ i → (r i).txFull = true := by
    intro i hji
    induction i, hji using Nat.le_induction with
    | base => exact Bool.not_eq_false _ ▸ hfull
    | succ i hji ih =>
      exact (h.inv i).txFull_kept (h.noReset i) (h.next i) ih
        ((hstall (i + 1) (by omega)).trans (hstall i (by omega)).symm)
  obtain ⟨i, hji, htake⟩ := h.txFair j fun i hji =>
    ⟨(h.inv i).txEnabled ((h.inv i).loop_of_txFull (hpending i hji)), hpending i hji⟩
  exact (h.inv i).txTake_sends (htake ▸ h.next i) (hpending i hji)
    ((hstall (i + 1) (by omega)).trans (hstall i (by omega)).symm)

/-- While a character is inside and none is sent, `upc` goes on at every `SEQ` turn and stays at every other. -/
theorem FairRun.upc_succ (h : FairRun σ r) (hstall : Stalled r k) (hheld : inFlight (r k) ≠ []) (hkj : k ≤ j) :
    (r (j + 1)).upc.toNat = (r j).upc.toNat + if σ j = .seq then 1 else 0 := by
  obtain ⟨-, ⟨hturn, hseq⟩ | ⟨hturn, hupc⟩⟩ := (h.inv j).agentStep_cases (h.noReset j) (h.next j)
  · have hempty := h.txFull_false hstall (j := j + 1) (by omega)
    have hgoes := (h.inv j).seqStep_advances (h.txFull_false hstall hkj) (h.inFlight_kept hstall hheld hkj) hseq
    simpa [hempty, hturn] using hgoes
  · simp [hturn, hupc]

theorem FairRun.upc_mono (h : FairRun σ r) (hstall : Stalled r k) (hheld : inFlight (r k) ≠ []) (hkj : k ≤ j)
    {i : Nat} (hji : j ≤ i) : (r j).upc.toNat ≤ (r i).upc.toNat := by
  induction i, hji using Nat.le_induction with
  | base => exact le_rfl
  | succ i hji ih =>
    rw [h.upc_succ hstall hheld (hkj.trans hji)]
    exact ih.trans (Nat.le_add_right ..)

/-- So `upc` would exceed every bound, `SEQ` being fair. -/
theorem FairRun.upc_unbounded (h : FairRun σ r) (hstall : Stalled r k) (hheld : inFlight (r k) ≠ []) (n : Nat) :
    ∃ j, k ≤ j ∧ n ≤ (r j).upc.toNat := by
  induction n with
  | zero => exact ⟨k, le_rfl, Nat.zero_le _⟩
  | succ n ih =>
    obtain ⟨j, hkj, hn⟩ := ih
    obtain ⟨i, hji, hturn⟩ := h.seqFair j
    have hmono := h.upc_mono hstall hheld hkj hji
    have hsucc := h.upc_succ hstall hheld (hkj.trans hji)
    rw [if_pos hturn] at hsucc
    exact ⟨i + 1, by omega, by omega⟩

theorem FairRun.not_stalled (h : FairRun σ r) (hheld : inFlight (r k) ≠ []) : ¬ Stalled r k := by
  intro hstall
  obtain ⟨j, -, hj⟩ := h.upc_unbounded hstall hheld 11
  have hlegal := (h.inv j).upcLegal
  omega

/-- A character inside the harness leads to a further character sent. -/
theorem FairRun.sends_more (h : FairRun σ r) (hheld : inFlight (r k) ≠ []) :
    ∃ j, k ≤ j ∧ (sentChars (r k).txLog).length < (sentChars (r j).txLog).length := by
  by_contra hnone
  refine h.not_stalled hheld fun j hkj => ?_
  have hlen := not_lt.mp fun hlt => hnone ⟨j, hkj, hlt⟩
  exact ((h.charactersKept hkj).2.eq_of_length_le hlen).symm

/-- As many characters are sent as were accepted at turn `k`, by induction on their number. -/
theorem FairRun.sends_accepted (h : FairRun σ r) {n : Nat} (hn : n ≤ (acceptedChars (r k).rxHist).length) :
    ∃ j, k ≤ j ∧ n ≤ (sentChars (r j).txLog).length := by
  induction n with
  | zero => exact ⟨k, le_rfl, Nat.zero_le _⟩
  | succ n ih =>
    obtain ⟨j, hkj, hsent⟩ := ih (by omega)
    rcases hsent.lt_or_eq with hmore | heq
    · exact ⟨j, hkj, hmore⟩
    · have haccepted := (h.charactersKept hkj).1.length_le
      obtain ⟨i, hji, hmore⟩ := h.sends_more ((h.inv j).inFlight_ne_nil_iff.mpr (by omega))
      exact ⟨i, hkj.trans hji, by omega⟩

end

/-- Settles O60: once as many are sent, both lists are prefixes of what is accepted by then. -/
theorem everyAcceptedCharacterIsEchoed : Obligations.EveryAcceptedCharacterIsEchoed := by
  intro s σ hinv hreset hseq htx k t ht
  obtain ⟨r, hfair, hrun⟩ := exists_fairRun hinv hreset hseq htx
  cases ht.symm.trans (hrun k)
  obtain ⟨j, hkj, hlen⟩ := hfair.sends_accepted (k := k) le_rfl
  have hsent : sentChars (r j).txLog <+: acceptedChars (r j).rxHist := (hfair.inv j).echo ▸ List.prefix_append ..
  exact ⟨j, r j, hkj, hrun j, List.prefix_of_prefix_length_le (hfair.charactersKept hkj).1 hsent hlen⟩

end Sys2Proof.Machine
end

section
/-! Runs from reset (spec/45_main_sequencer.md R192, R193): under legal parameters the harness invariant holds along
every run and under every schedule, and the two statements on runs are its fields `echo` and `trace`. -/

namespace Sys2Proof.Machine

/-! ### The invariant along a run -/

section
variable {s : State}

/-- Every schedule gives the harness a next state, in which the invariant holds of the same parameters (R36, R208). -/
theorem HarnessInv.step_next (h : HarnessInv s) : ∃ t, step s = .next t ∧ HarnessInv t ∧ t.params = s.params := by
  obtain ⟨t, ht⟩ : ∃ t, step s = .next t := by
    rw [step_of_legal h.legal, nextTurn]
    split
    · obtain ⟨t, ht, -⟩ := h.seqStep_keeps
      exact ⟨t, ht⟩
    · exact (h.setSched _).agentStep_next _
  obtain ⟨hparams, -⟩ := historiesOnlyGrow s t ht
  exact ⟨t, ht, everyStepKeepsHarnessInv s t h ht, hparams⟩

theorem HarnessInv.core_run (h : HarnessInv s) (k : Nat) :
    ∃ t : State, Host.Core.run Sys2Proof.core k s = .next t ∧ HarnessInv t ∧ t.params = s.params := by
  induction k generalizing s with
  | zero => exact ⟨s, rfl, h, rfl⟩
  | succ k ih =>
    obtain ⟨u, hstep, hu, hup⟩ := h.step_next
    obtain ⟨t, hrun, ht, htp⟩ := ih hu
    exact ⟨t, (core_run_succ hstep k).trans hrun, ht, htp.trans hup⟩

/-- A run from reset goes on for any number of steps, under the invariant. -/
theorem core_run_launch {p : Params} (hp : p.legal = true) (turns : List Turn) (k : Nat) :
    ∃ t : State, Host.Core.run Sys2Proof.core k (launch p turns) = .next t ∧ HarnessInv t ∧ t.params = p :=
  (harnessInvAtLaunch p turns hp).core_run k

/-! ### What the invariant says of the histories -/

/-- There are three places for a character: `tx_buf`, `ch` and `rx_buf` (R172, R192). -/
theorem inFlight_length_le (s : State) : (inFlight s).length ≤ 3 := by
  have hplace (c : Prop) [Decidable c] (b : Byte) : (if c then [b] else []).length ≤ 1 := by split <;> simp
  have htx := hplace (s.txFull = true) (s.txBuf.extractLsb' 0 8)
  have hch := hplace (s.upc = 9#4 ∨ s.upc = 10#4) (s.ch.extractLsb' 0 8)
  have hrx := hplace (s.rxFull = true) (s.rxBuf.extractLsb' 0 8)
  rw [inFlight, List.length_append, List.length_append]
  omega

end

/-- Settles O56: what is accepted is what was sent, then what is inside the harness. -/
theorem sentIsAPrefixOfAccepted : Obligations.SentIsAPrefixOfAccepted := by
  intro p turns k hp
  obtain ⟨t, hrun, hinv, -⟩ := core_run_launch hp turns k
  refine ⟨t, hrun, hinv.echo ▸ List.prefix_append .., ?_⟩
  rw [hinv.echo, List.length_append]
  exact Nat.add_le_add_left (inFlight_length_le t) _

/-- Settles O57: the first `upc` of the seven are a beginning of the seven. -/
theorem startupTraceOfEveryRun : Obligations.StartupTraceOfEveryRun := by
  intro p turns k t hp hrun
  obtain ⟨u, hu, hinv, rfl⟩ := core_run_launch hp turns k
  cases hrun.symm.trans hu
  obtain ⟨a, b, htake, hdrop, -, -⟩ := hinv.trace
  exact ⟨a, b, htake ▸ List.take_prefix .., hdrop⟩

end Sys2Proof.Machine
end

section
/-! What a `SEQ` step keeps of an operation's answer (spec/45_main_sequencer.md R189, R194; spec/60_exceptions.md R204,
R207): whether the item is over decides what stands at the port; a `upc` that selects no micro-operation is a fault. -/

namespace Sys2Proof.Machine

/-! ### When an item is over -/

section
variable {t : State}

theorem finished_of_fault (h : t.fault ≠ none) (cw : CodeWord) : finished cw t = false := by
  simp [finished, h]

/-- A driver operation that did not fault is over once none is under way (R194, log 10). -/
theorem finished_op (h : t.fault = none) (w : OpBits) : finished (.port (.op w)) t = (t.phase == .idle) := by
  simp [finished, h]

theorem finished_op_underWay (h : t.phase ≠ .idle) (w : OpBits) : finished (.port (.op w)) t = false := by
  simp [finished, h]

theorem finished_key (h : t.fault = none) (k : BitVec 8) (v : Word) : finished (.port (.key k v)) t = true := by
  simp [finished, h]

theorem finished_bus (h : t.fault = none) (b : BusItem) : finished (.port (.bus b)) t = true := by
  simp [finished, h]

end

/-! ### What is kept -/

section
variable {cw : CodeWord} {s t : State}

theorem settle_of_finished (h : finished cw t = true) :
    settle cw s (.next t) = .next { t with port := t.port.tail } := by
  rw [settle, retire, if_pos h, State.setPort]

theorem settle_of_unfinished (h : finished cw t = false) : settle cw s (.next t) = .next t := by
  rw [settle, retire, if_neg (Bool.eq_false_iff.mp h)]

end

/-- Settles O7: by the kind of the item, and for a driver operation by the phase. -/
theorem finishedItemLeavesThePort : Obligations.FinishedItemLeavesThePort := by
  intro s t
  refine ⟨fun u => ?_, fun w hf hph => ?_, fun w hph => ?_, fun k v hf => ?_, fun b hf => ?_, fun cw hf => ?_,
    fun cw r => rfl⟩
  · rw [settle, retire_uop]
  · exact settle_of_finished ((finished_op hf w).trans (beq_iff_eq.mpr hph))
  · exact settle_of_unfinished (finished_op_underWay hph w)
  · exact settle_of_finished (finished_key hf k v)
  · exact settle_of_finished (finished_bus hf b)
  · exact settle_of_unfinished (finished_of_fault hf cw)

/-! ### A `upc` of 11 to 15 -/

/-- A first fault leaves its record and nothing else (R204). -/
theorem raise_eq {s : State} (h : s.fault = none) (kind : ErrorKind) (u : Option Nibble) (a : Option Word) :
    raise kind u a s = { s with fault := some { kind := kind, upc := u, addr := a } } := by
  rw [raise, h, Option.none_or]

/-- Settles O32: such a `upc` does not decode, and that is the one decoding error that is a fault. -/
theorem illegalStateIsRecorded : Obligations.IllegalStateIsRecorded := by
  intro s hl hr hport hsched hupc
  have hdecode : decode s.params (fetch s) = .error (.illegalUpc s.upc) := by
    rw [fetch_of_alone hport]
    exact decodeUop_illegal hupc
  rw [step_of_unscheduled hl hsched, seqStep_of_decode_error hr hdecode, ← raise_eq hr.2]
  rfl

end Sys2Proof.Machine
end

section
/-! The eleven micro-operations (spec/45_main_sequencer.md R177 to R188): each is one read or one write transaction, so
what it does is its transaction's outcome and the successor it chooses. -/

namespace Sys2Proof.Machine

/-! ### A micro-operation that does not complete -/

section
variable {r : Reg} {v : Word} {n : Nibble} {s : State}

theorem microWrite_illegal {e : Refusal} (hr : Running s) (hopen : gateOpen r s = true)
    (hillegal : writeRefusal r v s = some e) : microWrite r v n s = .refused e := by
  rw [microWrite, whenRunning_eq hr, busWrite_illegal hopen hillegal]

theorem microWrite_closed (hr : Running s) (hclosed : gateOpen r s = false) :
    microWrite r v n s = .next (clockFaulted s (some s.upc) (addrOf s.params r)) := by
  rw [microWrite, whenRunning_eq hr, busWrite_closed hclosed, raiseClockNotReady_eq hr.2]

theorem microRead_closed {k : Word → State → State} (hr : Running s) (hclosed : gateOpen r s = false) :
    microRead r s k = .next (clockFaulted s (some s.upc) (addrOf s.params r)) := by
  rw [microRead, whenRunning_eq hr, busRead_closed hclosed, raiseClockNotReady_eq hr.2]

end

/-! ### `CLK_EN` -/

/-- Settles O26: the gate of `RCU_CLKEN` is always open, and the register takes every word. -/
theorem clockEnableMicroOperation : Obligations.ClockEnableMicroOperation := fun s hr =>
  microWrite_open (r := .rcuClken) hr (gateOpen_rcuClken s) rfl 1#4

/-! ### The pins -/

/-- The read half of a pin's read-modify-write, by the gate (R179, R181). -/
theorem microRead_gpioReg {s : State} (hr : Running s) (pin n : Nibble) :
    microRead (gpioReg pin) s (fun v t => (t.setTmp v).setUpc n) =
      if paen s then
        .next { s with
          tmp := gpioWord s pin, upc := n
          busLog := s.busLog ++ [.read (gpioAddr s.params pin) (gpioWord s pin)] }
      else .next (clockFaulted s (some s.upc) (gpioAddr s.params pin)) := by
  rw [← addrOf_gpioReg]
  cases hgate : paen s with
  | true => exact microRead_pin hr hgate n
  | false => exact microRead_closed hr ((gateOpen_gpioReg pin s).trans hgate)

/-- Settles O27: the two differ in the pin and the successor. -/
theorem pinReadMicroOperations : Obligations.PinReadMicroOperations := fun s hr =>
  ⟨microRead_gpioReg hr s.params.txPin 2#4, microRead_gpioReg hr s.params.rxPin 4#4⟩

/-- The state after the write half of a pin's read-modify-write (R180, R182). -/
def State.pinWritten (s : State) (pin config n : Nibble) : State :=
  (s.wrote (gpioReg pin) (insertField s.tmp pin config)).setUpc n

theorem pinWritten_eq (s : State) (pin config n : Nibble) : s.pinWritten pin config n =
    { withGpioWord s pin (insertedWord s.tmp pin config) with
      upc := n
      busLog := s.busLog ++ [.write (gpioAddr s.params pin) (insertedWord s.tmp pin config)] } := by
  rw [State.pinWritten, wrote_gpioReg, ← writeEffect_gpioReg, State.logBus, writeEffect_busLog, writeEffect_gpioReg]
  rfl

/-- The pin's output is the written configuration at once (R137). -/
theorem pinCfg_pinWritten (s : State) (pin config n : Nibble) : pinCfg (s.pinWritten pin config n) pin = config := by
  rw [State.pinWritten, pinCfg_wrote_setUpc, pinCfg_withGpioWord_self]

theorem microWrite_gpioReg_open {s : State} (hr : Running s) (hopen : paen s = true) (pin config n : Nibble) :
    microWrite (gpioReg pin) (insertField s.tmp pin config) n s = .next (s.pinWritten pin config n) :=
  microWrite_open hr ((gateOpen_gpioReg pin s).trans hopen) (writeRefusal_gpioReg ..) n

theorem microWrite_gpioReg_closed {s : State} (hr : Running s) (hclosed : paen s = false) (pin : Nibble) (v : Word)
    (n : Nibble) :
    microWrite (gpioReg pin) v n s = .next (clockFaulted s (some s.upc) (gpioAddr s.params pin)) := by
  rw [microWrite_closed hr ((gateOpen_gpioReg pin s).trans hclosed), addrOf_gpioReg]

/-- Settles O28: the two differ in the pin, its configuration and the successor. -/
theorem pinWriteMicroOperations : Obligations.PinWriteMicroOperations := by
  refine fun s hr => ⟨fun hopen => ⟨?_, ?_⟩, fun hclosed => ⟨?_, ?_⟩⟩
  · exact ⟨s.pinWritten s.params.txPin 0xB#4 3#4, microWrite_gpioReg_open hr hopen .., pinCfg_pinWritten ..,
      pinWritten_eq ..⟩
  · exact ⟨s.pinWritten s.params.rxPin 0x4#4 5#4, microWrite_gpioReg_open hr hopen .., pinCfg_pinWritten ..,
      pinWritten_eq ..⟩
  · exact microWrite_gpioReg_closed hr hclosed ..
  · exact microWrite_gpioReg_closed hr hclosed ..

/-! ### The USART's start-up -/

/-- Settles O29: by the gate, and for `BAUD_WR` by the divisor; the control word is fixed and legal. -/
theorem initMicroOperations : Obligations.InitMicroOperations := by
  refine fun s hr => ⟨fun hopen => ⟨fun hlegal => ?_, fun hillegal => ?_, ?_⟩, fun hclosed => ⟨?_, ?_⟩⟩
  · exact microWrite_open (r := .usartBaud) hr hopen (writeRefusal_usartBaud_legal hlegal s) 6#4
  · exact microWrite_illegal (r := .usartBaud) hr hopen (writeRefusal_usartBaud_illegal hillegal s)
  · exact microWrite_open (r := .usartCtl0) hr hopen (writeRefusal_usartCtl0_legal rfl s) 7#4
  · exact microWrite_closed (r := .usartBaud) hr hclosed
  · exact microWrite_closed (r := .usartCtl0) hr hclosed

/-! ### The echo loop -/

/-- Settles O30: both polls read the same word, and the bit each tests is the flag that its successor was found by. -/
theorem pollMicroOperations : Obligations.PollMicroOperations := by
  refine fun s hr => ⟨fun hopen => ?_, fun hclosed => ⟨?_, ?_⟩⟩
  · obtain ⟨w, rfl, hrbne, htbe, -⟩ := readValue_usartStat s
    refine ⟨_, hrbne, htbe, ?_, ?_⟩
    · rw [hrbne]
      exact exec_rxPoll hr hopen
    · rw [htbe]
      exact exec_txPoll hr hopen
  · exact microRead_closed (r := .usartStat) hr hclosed
  · exact microRead_closed (r := .usartStat) hr hclosed

/-- `RX_READ` of an empty buffer takes a free value (R109, log 13). -/
theorem exec_rxRead_empty {s : State} (hr : Running s) (hopen : usart0en s = true) (hempty : s.rxFull = false) :
    exec .rxRead s =
      .next (((s.drawn.logBus (.read (addrOf s.params .usartData) ((Config.dataDraw s.draws).setWidth 32))).setCh
        ((Config.dataDraw s.draws).setWidth 32)).setUpc 9#4) := by
  show microRead .usartData s _ = _
  rw [microRead, whenRunning_eq hr, busRead_open ((gateOpen_usartData s).trans hopen),
    readValue_usartData_empty hempty, readEffect_usartData_empty hempty]

/-- Settles O31: by the gate, and with it open by the flag of the buffer. -/
theorem dataMicroOperations : Obligations.DataMicroOperations := by
  refine fun s hr => ⟨fun hopen => ⟨exec_rxRead hr hopen, exec_rxRead_empty hr hopen, fun hempty => ?_,
    fun hfull => ?_⟩, fun hclosed => ⟨?_, ?_⟩⟩
  · rw [exec_txWrite hr hopen hempty, wrote_usartData, State.setUpc]
  · exact microWrite_illegal (r := .usartData) hr hopen (writeRefusal_usartData_full hfull s.ch)
  · exact microRead_closed (r := .usartData) hr hclosed
  · exact microWrite_closed (r := .usartData) hr hclosed

end Sys2Proof.Machine
end

section
/-! A recorded fault and the harness without one (spec/60_exceptions.md R204, R205, R207, R208): a fault takes `SEQ` its
steps and nobody else's, and RESET alone clears it; the harness running its micro-program records none. -/

namespace Sys2Proof.Machine

/-! ### A recorded fault takes `SEQ` its steps -/

section
variable {s t : State} {f : FaultRecord}

theorem exec_of_fault (hr : s.refused = none) (hf : s.fault = some f) (i : Instr) : exec i s = .fault (.halted f) := by
  obtain ⟨k, hk⟩ := exec_eq_whenRunning i s
  rw [hk, whenRunning_halted hr hf]

theorem seqStep_of_fault (hr : s.refused = none) (hf : s.fault = some f) : seqStep s = .fault (.halted f) :=
  whenRunning_halted hr hf _

/-- With a fault recorded `SEQ` reaches no next state (R204). -/
theorem seqStep_ne_next_of_fault (hf : s.fault = some f) : seqStep s ≠ .next t := by
  intro ht
  obtain ⟨⟨-, hnone⟩, -⟩ := seqStep_next_cases ht
  cases hnone.symm.trans hf

/-- A scheduled `SEQ` turn passes (log 5). -/
theorem step_of_seq_fault {rest : List Turn} (hl : s.params.legal = true) (hr : s.refused = none)
    (hf : s.fault = some f) (h : s.sched = .seq :: rest) : step s = .next (s.setSched rest) :=
  (step_of_turn hl h).trans (seqTurn_passes (s := s.setSched rest) hr hf)

end

/-! ### Only RESET clears the record -/

@[simp] theorem lineRx_fault (c : Byte) (ferr nerr : Bool) (s : State) : (lineRx c ferr nerr s).fault = s.fault := by
  rcases lineRx_cases s c ferr nerr with h | ⟨c', ferr', nerr', h⟩ | h <;> simp [h]

@[simp] theorem phyTx_fault (s : State) : (phyTx s).fault = s.fault := by
  rcases phyTx_cases s with h | ⟨-, h⟩ <;> simp [h]

/-- The record stays as it is under every turn but RESET, whatever the parameters: `SEQ`, which alone could raise a
fault, has no step (R205). -/
theorem step_fault_kept {s t : State} {f : FaultRecord} (hf : s.fault = some f) (h : step s = .next t) :
    t.fault = some f ∨ ∃ rest, s.sched = .reset :: rest := by
  cases step_next_cases h with
  | seqLast _ _ ht => exact absurd ht (seqStep_ne_next_of_fault hf)
  | seq _ rest _ ht => exact absurd ht (seqStep_ne_next_of_fault (s := s.setSched rest) hf)
  | pass _ rest _ _ ht => exact .inl (by simp [ht, hf])
  | rxArrive _ c ferr nerr rest _ _ ht => exact .inl (by simp [ht, hf])
  | lineRx _ c ferr nerr rest _ _ ht => exact .inl (by simp [ht, hf])
  | txTake _ rest _ _ ht => exact .inl (by simp [ht, hf])
  | reset rest hsched _ => exact .inr ⟨rest, hsched⟩
  | illegal _ _ _ ht => exact .inl (by simp [ht, hf])

/-- Settles O39: the running check is what stops `SEQ`, and no PHY agent makes it. -/
theorem faultStopsOnlyTheSequencer : Obligations.FaultStopsOnlyTheSequencer := by
  intro s f hl hr hf
  refine ⟨exec_of_fault hr hf, fun hsched => ?_, fun _ => step_of_seq_fault hl hr hf,
    fun _ _ _ _ => step_of_rxArrive hl hr, fun _ => step_of_txTake hl hr, fun _ => step_fault_kept hf⟩
  rw [step_of_unscheduled hl hsched, seqStep_of_fault hr hf]

/-! ### The harness records neither a fault nor a refusal -/

/-- Settles O55: each turn has a next state, and the invariant, which holds there too, says that nothing is recorded. -/
theorem harnessNeverStops : Obligations.HarnessNeverStops := by
  intro s h
  obtain ⟨t, ht, hinv, -⟩ := h.step_next
  exact ⟨t, ht, hinv.running⟩

end Sys2Proof.Machine
end
